-- ==== Sys2Proof/Word.lean ====
section
/-!
DEFINITION. The data sizes of the machine (spec/00_scope.md R4, R5) and the operand selectors of the symbol key
(00_scope.md R8). A selector that the key does not list (register code 110, alternate pair 11, restart 000, 001,
110) has no constructor here, so an instruction cannot name it.
-/
namespace Sys2Proof

/-- A byte: 8 bits (00_scope.md R4). -/
abbrev Byte := BitVec 8

/-- A 16-bit word: register pairs, index registers, SP, PC and logical addresses (00_scope.md R4). -/
abbrev Word := BitVec 16

/-- A 20-bit physical address (20_memory.md R40). -/
abbrev Phys := BitVec 20

/-- `r`, `g`: byte register select; code 110 names no register (00_scope.md R8, 10_state.md R11). -/
inductive R8 where
  | b | c | d | e | h | l | a
  deriving DecidableEq, Repr

/-- `dd`, `ss`: word register select BC, DE, HL, SP (00_scope.md R8). -/
inductive SS where
  | bc | de | hl | sp
  deriving DecidableEq, Repr

/-- `xx`: word register select BC, DE, IX, SP (00_scope.md R8). -/
inductive XX where
  | bc | de | ix | sp
  deriving DecidableEq, Repr

/-- `yy`: word register select BC, DE, IY, SP (00_scope.md R8). -/
inductive YY where
  | bc | de | iy | sp
  deriving DecidableEq, Repr

/-- `zz`: word register select BC, DE, HL, AF (00_scope.md R8). -/
inductive ZZ where
  | bc | de | hl | af
  deriving DecidableEq, Repr

/-- `dd'`: alternate word register select BC', DE', HL'; code 11 is not listed (00_scope.md R8). -/
inductive DDa where
  | bc | de | hl
  deriving DecidableEq, Repr

/-- `f`: condition select (00_scope.md R8, 48_control.md R320). -/
inductive CondF where
  | nz | z | nc | c | lz | lo | p | m
  deriving DecidableEq, Repr

/-- `cc`: condition select of `JR cc,e` (00_scope.md R8). -/
inductive CondCC where
  | nz | z | nc | c
  deriving DecidableEq, Repr

/-- `v`: restart select, the assembler operands 10, 18, 20, 28, 38 (00_scope.md R8, 48_control.md R336). -/
inductive Rst where
  | v10 | v18 | v20 | v28 | v38
  deriving DecidableEq, Repr

/-- The two I/O spaces of 20_memory.md R40: `INT` (IOI) and `EXT` (IOE). -/
inductive IoSpace where
  | int | ext
  deriving DecidableEq, Repr

/-- The defined prefix sets of 30_encoding.md R66, in the order of their bytes: none; ALTD; IOI; IOE; ALTD with
IOI and ALTD with IOE, each in either order. -/
inductive Pfx where
  | none | altd | ioi | ioe | altdIoi | ioiAltd | altdIoe | ioeAltd
  deriving DecidableEq, Repr

end Sys2Proof
end

