-- ==== Sys2Proof/Config.lean ====
section
/-!
DEFINITION. The parameters of spec/00_scope.md R4 that 92_eei_decisions.md leaves open and the free values: constants
without a body, so that no proof can see them. The parameters with a decided value (`F_LAYOUT`, `ADD_SP_D_SIGNED`) are
in Sys2Proof/Machine/Flags.lean.
-/
namespace Sys2Proof

/-- One byte written to an I/O space, as the event of 92_eei_decisions.md D3. -/
structure IoWrite where
  /-- The space the write went to. -/
  space : IoSpace
  /-- The 16-bit I/O address. -/
  addr : Word
  /-- The byte written. -/
  val : Byte
  deriving DecidableEq, Repr

/-- The two values of the parameter `SUB_CARRY_SENSE` (44_arith8.md R214, 92_eei_decisions.md D18). -/
inductive SubCarrySense where
  /-- C after `SUB` is the borrow, as for `CP`. -/
  | borrow
  /-- C after `SUB` is the complement of the borrow. -/
  | opposite
  deriving DecidableEq, Repr, Inhabited

namespace Config

/-- Free value: what a byte of physical memory that nothing has written reads as (70_reset_and_hazards.md R430,
93_implementation_defined.md U4; log 10). -/
opaque unwrittenByte : Phys → Byte

/-- Free value: the byte that the read number `k` of an I/O space answers at address `a`, after the I/O writes
`ws` (20_memory.md R48, 92_eei_decisions.md D3, 93 U9; log 6). -/
opaque ioRead : IoSpace → Word → List IoWrite → Nat → Byte

/-- The parameter `Translate` of 20_memory.md R47, left open: a function of XPC, of the writes made to the internal
I/O space, and of the 16-bit address (92_eei_decisions.md D1; log 3). -/
opaque translate : Byte → List (Word × Byte) → Word → Phys

/-- The parameter `SUB_CARRY_SENSE`, left open (44_arith8.md R214, 92_eei_decisions.md D18; log 13). -/
opaque subCarrySense : SubCarrySense

/-- Free value: draw number `k` of the four bits of F that hold no flag (10_state.md R17, 93 U3; log 12). -/
opaque unusedFBits : Nat → Byte

end Config

end Sys2Proof
end

