-- ==== Sys2Proof/Syntax.lean ====
section
/-!
DEFINITION. The instructions: one constructor for each of the 236 rows of spec/opcode_table.json. A memory operand
`(..)` of a row is written `M..` in the constructor's name; `x` is the operand `xpc`. The three prefix rows carry
the instruction they stand before, since a prefix is decoded with it (30_encoding.md R66, 92_eei_decisions.md D10).
-/
namespace Sys2Proof

/-- The 236 rows of spec/opcode_table.json (00_scope.md R3). -/
inductive Instr where
  /-- `LD IX,mn` (40_load_immediate_direct.md R100). -/
  | ldIXmn (mn : Word)
  /-- `LD IY,mn` (40_load_immediate_direct.md R101). -/
  | ldIYmn (mn : Word)
  /-- `LD dd,mn` (40_load_immediate_direct.md R102). -/
  | ldDDmn (dd : SS) (mn : Word)
  /-- `LD r,n` (40_load_immediate_direct.md R103). -/
  | ldRN (r : R8) (n : Byte)
  /-- `LD (mn),A` (40_load_immediate_direct.md R104). -/
  | ldMmnA (mn : Word)
  /-- `LD A,(mn)` (40_load_immediate_direct.md R105). -/
  | ldAMmn (mn : Word)
  /-- `LD (mn),HL` (40_load_immediate_direct.md R106). -/
  | ldMmnHL (mn : Word)
  /-- `LD (mn),IX` (40_load_immediate_direct.md R107). -/
  | ldMmnIX (mn : Word)
  /-- `LD (mn),IY` (40_load_immediate_direct.md R108). -/
  | ldMmnIY (mn : Word)
  /-- `LD (mn),ss` (40_load_immediate_direct.md R109). -/
  | ldMmnSS (mn : Word) (ss : SS)
  /-- `LD HL,(mn)` (40_load_immediate_direct.md R110). -/
  | ldHLMmn (mn : Word)
  /-- `LD IX,(mn)` (40_load_immediate_direct.md R111). -/
  | ldIXMmn (mn : Word)
  /-- `LD IY,(mn)` (40_load_immediate_direct.md R112). -/
  | ldIYMmn (mn : Word)
  /-- `LD dd,(mn)` (40_load_immediate_direct.md R113). -/
  | ldDDMmn (dd : SS) (mn : Word)
  /-- `LD A,(BC)` (41_load_indexed.md R114). -/
  | ldAMbc
  /-- `LD A,(DE)` (41_load_indexed.md R115). -/
  | ldAMde
  /-- `LD (BC),A` (41_load_indexed.md R116). -/
  | ldMbcA
  /-- `LD (DE),A` (41_load_indexed.md R117). -/
  | ldMdeA
  /-- `LD (HL),n` (41_load_indexed.md R118). -/
  | ldMhlN (n : Byte)
  /-- `LD (HL),r` (41_load_indexed.md R119). -/
  | ldMhlR (r : R8)
  /-- `LD r,(HL)` (41_load_indexed.md R120). -/
  | ldRMhl (r : R8)
  /-- `LD (IX+d),n` (41_load_indexed.md R121). -/
  | ldMixN (d : Byte) (n : Byte)
  /-- `LD (IX+d),r` (41_load_indexed.md R122). -/
  | ldMixR (d : Byte) (r : R8)
  /-- `LD r,(IX+d)` (41_load_indexed.md R123). -/
  | ldRMix (r : R8) (d : Byte)
  /-- `LD (IY+d),n` (41_load_indexed.md R124). -/
  | ldMiyN (d : Byte) (n : Byte)
  /-- `LD (IY+d),r` (41_load_indexed.md R125). -/
  | ldMiyR (d : Byte) (r : R8)
  /-- `LD r,(IY+d)` (41_load_indexed.md R126). -/
  | ldRMiy (r : R8) (d : Byte)
  /-- `LD (HL+d),HL` (41_load_indexed.md R127). -/
  | ldMhldHL (d : Byte)
  /-- `LD HL,(HL+d)` (41_load_indexed.md R128). -/
  | ldHLMhld (d : Byte)
  /-- `LD (SP+n),HL` (41_load_indexed.md R129). -/
  | ldMspHL (n : Byte)
  /-- `LD (SP+n),IX` (41_load_indexed.md R130). -/
  | ldMspIX (n : Byte)
  /-- `LD (SP+n),IY` (41_load_indexed.md R131). -/
  | ldMspIY (n : Byte)
  /-- `LD HL,(SP+n)` (41_load_indexed.md R132). -/
  | ldHLMsp (n : Byte)
  /-- `LD IX,(SP+n)` (41_load_indexed.md R133). -/
  | ldIXMsp (n : Byte)
  /-- `LD IY,(SP+n)` (41_load_indexed.md R134). -/
  | ldIYMsp (n : Byte)
  /-- `LD (IX+d),HL` (41_load_indexed.md R135). -/
  | ldMixHL (d : Byte)
  /-- `LD HL,(IX+d)` (41_load_indexed.md R136). -/
  | ldHLMix (d : Byte)
  /-- `LD (IY+d),HL` (41_load_indexed.md R137). -/
  | ldMiyHL (d : Byte)
  /-- `LD HL,(IY+d)` (41_load_indexed.md R138). -/
  | ldHLMiy (d : Byte)
  /-- `LDP (HL),HL` (41_load_indexed.md R139). -/
  | ldpMhlHL
  /-- `LDP (IX),HL` (41_load_indexed.md R140). -/
  | ldpMixHL
  /-- `LDP (IY),HL` (41_load_indexed.md R141). -/
  | ldpMiyHL
  /-- `LDP HL,(HL)` (41_load_indexed.md R142). -/
  | ldpHLMhl
  /-- `LDP HL,(IX)` (41_load_indexed.md R143). -/
  | ldpHLMix
  /-- `LDP HL,(IY)` (41_load_indexed.md R144). -/
  | ldpHLMiy
  /-- `LDP (mn),HL` (41_load_indexed.md R145). -/
  | ldpMmnHL (mn : Word)
  /-- `LDP (mn),IX` (41_load_indexed.md R146). -/
  | ldpMmnIX (mn : Word)
  /-- `LDP (mn),IY` (41_load_indexed.md R147). -/
  | ldpMmnIY (mn : Word)
  /-- `LDP HL,(mn)` (41_load_indexed.md R148). -/
  | ldpHLMmn (mn : Word)
  /-- `LDP IX,(mn)` (41_load_indexed.md R149). -/
  | ldpIXMmn (mn : Word)
  /-- `LDP IY,(mn)` (41_load_indexed.md R150). -/
  | ldpIYMmn (mn : Word)
  /-- `LD r,g` (42_move_exchange_stack.md R151). -/
  | ldRG (r : R8) (g : R8)
  /-- `LD A,EIR` (42_move_exchange_stack.md R152). -/
  | ldAEIR
  /-- `LD A,IIR` (42_move_exchange_stack.md R153). -/
  | ldAIIR
  /-- `LD A,XPC` (42_move_exchange_stack.md R154). -/
  | ldAXPC
  /-- `LD EIR,A` (42_move_exchange_stack.md R155). -/
  | ldEIRA
  /-- `LD IIR,A` (42_move_exchange_stack.md R156). -/
  | ldIIRA
  /-- `LD XPC,A` (42_move_exchange_stack.md R157). -/
  | ldXPCA
  /-- `LD HL,IX` (42_move_exchange_stack.md R158). -/
  | ldHLIX
  /-- `LD HL,IY` (42_move_exchange_stack.md R159). -/
  | ldHLIY
  /-- `LD IX,HL` (42_move_exchange_stack.md R160). -/
  | ldIXHL
  /-- `LD IY,HL` (42_move_exchange_stack.md R161). -/
  | ldIYHL
  /-- `LD SP,HL` (42_move_exchange_stack.md R162). -/
  | ldSPHL
  /-- `LD SP,IX` (42_move_exchange_stack.md R163). -/
  | ldSPIX
  /-- `LD SP,IY` (42_move_exchange_stack.md R164). -/
  | ldSPIY
  /-- `LD dd',BC` (42_move_exchange_stack.md R165). -/
  | ldDDaBC (dd : DDa)
  /-- `LD dd',DE` (42_move_exchange_stack.md R166). -/
  | ldDDaDE (dd : DDa)
  /-- `EX (SP),HL` (42_move_exchange_stack.md R167). -/
  | exMspHL
  /-- `EX (SP),IX` (42_move_exchange_stack.md R168). -/
  | exMspIX
  /-- `EX (SP),IY` (42_move_exchange_stack.md R169). -/
  | exMspIY
  /-- `EX AF,AF'` (42_move_exchange_stack.md R170). -/
  | exAF
  /-- `EX DE',HL` (42_move_exchange_stack.md R171). -/
  | exDEaHL
  /-- `EX DE',HL'` (42_move_exchange_stack.md R172). -/
  | exDEaHLa
  /-- `EX DE,HL` (42_move_exchange_stack.md R173). -/
  | exDEHL
  /-- `EX DE,HL'` (42_move_exchange_stack.md R174). -/
  | exDEHLa
  /-- `EXX` (42_move_exchange_stack.md R175). -/
  | exx
  /-- `ADD SP,d` (42_move_exchange_stack.md R176). -/
  | addSPd (d : Byte)
  /-- `POP IP` (42_move_exchange_stack.md R177). -/
  | popIP
  /-- `POP IX` (42_move_exchange_stack.md R178). -/
  | popIX
  /-- `POP IY` (42_move_exchange_stack.md R179). -/
  | popIY
  /-- `POP zz` (42_move_exchange_stack.md R180). -/
  | popZZ (zz : ZZ)
  /-- `PUSH IP` (42_move_exchange_stack.md R181). -/
  | pushIP
  /-- `PUSH IX` (42_move_exchange_stack.md R182). -/
  | pushIX
  /-- `PUSH IY` (42_move_exchange_stack.md R183). -/
  | pushIY
  /-- `PUSH zz` (42_move_exchange_stack.md R184). -/
  | pushZZ (zz : ZZ)
  /-- `ADC HL,ss` (43_arith16.md R186). -/
  | adcHLss (ss : SS)
  /-- `ADD HL,ss` (43_arith16.md R187). -/
  | addHLss (ss : SS)
  /-- `ADD IX,xx` (43_arith16.md R188). -/
  | addIXxx (xx : XX)
  /-- `ADD IY,yy` (43_arith16.md R189). -/
  | addIYyy (yy : YY)
  /-- `AND HL,DE` (43_arith16.md R190). -/
  | andHLDE
  /-- `AND IX,DE` (43_arith16.md R191). -/
  | andIXDE
  /-- `AND IY,DE` (43_arith16.md R192). -/
  | andIYDE
  /-- `BOOL HL` (43_arith16.md R193). -/
  | boolHL
  /-- `BOOL IX` (43_arith16.md R194). -/
  | boolIX
  /-- `BOOL IY` (43_arith16.md R195). -/
  | boolIY
  /-- `DEC IX` (43_arith16.md R196). -/
  | decIX
  /-- `DEC IY` (43_arith16.md R197). -/
  | decIY
  /-- `DEC ss` (43_arith16.md R198). -/
  | decSS (ss : SS)
  /-- `INC IX` (43_arith16.md R199). -/
  | incIX
  /-- `INC IY` (43_arith16.md R200). -/
  | incIY
  /-- `INC ss` (43_arith16.md R201). -/
  | incSS (ss : SS)
  /-- `MUL` (43_arith16.md R202). -/
  | mul
  /-- `OR HL,DE` (43_arith16.md R203). -/
  | orHLDE
  /-- `OR IX,DE` (43_arith16.md R204). -/
  | orIXDE
  /-- `OR IY,DE` (43_arith16.md R205). -/
  | orIYDE
  /-- `RL DE` (43_arith16.md R206). -/
  | rlDE
  /-- `RR DE` (43_arith16.md R207). -/
  | rrDE
  /-- `RR HL` (43_arith16.md R208). -/
  | rrHL
  /-- `RR IX` (43_arith16.md R209). -/
  | rrIX
  /-- `RR IY` (43_arith16.md R210). -/
  | rrIY
  /-- `SBC HL,ss` (43_arith16.md R211). -/
  | sbcHLss (ss : SS)
  /-- `ADC A,(HL)` (44_arith8.md R215). -/
  | adcMhl
  /-- `ADC A,(IX+d)` (44_arith8.md R216). -/
  | adcMix (d : Byte)
  /-- `ADC A,(IY+d)` (44_arith8.md R217). -/
  | adcMiy (d : Byte)
  /-- `ADC A,n` (44_arith8.md R218). -/
  | adcN (n : Byte)
  /-- `ADC A,r` (44_arith8.md R219). -/
  | adcR (r : R8)
  /-- `ADD A,(HL)` (44_arith8.md R220). -/
  | addMhl
  /-- `ADD A,(IX+d)` (44_arith8.md R221). -/
  | addMix (d : Byte)
  /-- `ADD A,(IY+d)` (44_arith8.md R222). -/
  | addMiy (d : Byte)
  /-- `ADD A,n` (44_arith8.md R223). -/
  | addN (n : Byte)
  /-- `ADD A,r` (44_arith8.md R224). -/
  | addR (r : R8)
  /-- `AND (HL)` (44_arith8.md R225). -/
  | andMhl
  /-- `AND (IX+d)` (44_arith8.md R226). -/
  | andMix (d : Byte)
  /-- `AND (IY+d)` (44_arith8.md R227). -/
  | andMiy (d : Byte)
  /-- `AND n` (44_arith8.md R228). -/
  | andN (n : Byte)
  /-- `AND r` (44_arith8.md R229). -/
  | andR (r : R8)
  /-- `CP (HL)` (44_arith8.md R230). -/
  | cpMhl
  /-- `CP (IX+d)` (44_arith8.md R231). -/
  | cpMix (d : Byte)
  /-- `CP (IY+d)` (44_arith8.md R232). -/
  | cpMiy (d : Byte)
  /-- `CP n` (44_arith8.md R233). -/
  | cpN (n : Byte)
  /-- `CP r` (44_arith8.md R234). -/
  | cpR (r : R8)
  /-- `OR (HL)` (44_arith8.md R235). -/
  | orMhl
  /-- `OR (IX+d)` (44_arith8.md R236). -/
  | orMix (d : Byte)
  /-- `OR (IY+d)` (44_arith8.md R237). -/
  | orMiy (d : Byte)
  /-- `OR n` (44_arith8.md R238). -/
  | orN (n : Byte)
  /-- `OR r` (44_arith8.md R239). -/
  | orR (r : R8)
  /-- `SBC A,(IX+d)` (44_arith8.md R240). -/
  | sbcMix (d : Byte)
  /-- `SBC A,(IY+d)` (44_arith8.md R241). -/
  | sbcMiy (d : Byte)
  /-- `SBC A,(HL)` (44_arith8.md R242). -/
  | sbcMhl
  /-- `SBC A,n` (44_arith8.md R243). -/
  | sbcN (n : Byte)
  /-- `SBC A,r` (44_arith8.md R244). -/
  | sbcR (r : R8)
  /-- `SUB (HL)` (44_arith8.md R245). -/
  | subMhl
  /-- `SUB (IX+d)` (44_arith8.md R246). -/
  | subMix (d : Byte)
  /-- `SUB (IY+d)` (44_arith8.md R247). -/
  | subMiy (d : Byte)
  /-- `SUB n` (44_arith8.md R248). -/
  | subN (n : Byte)
  /-- `SUB r` (44_arith8.md R249). -/
  | subR (r : R8)
  /-- `XOR (HL)` (44_arith8.md R250). -/
  | xorMhl
  /-- `XOR (IX+d)` (44_arith8.md R251). -/
  | xorMix (d : Byte)
  /-- `XOR (IY+d)` (44_arith8.md R252). -/
  | xorMiy (d : Byte)
  /-- `XOR n` (44_arith8.md R253). -/
  | xorN (n : Byte)
  /-- `XOR r` (44_arith8.md R254). -/
  | xorR (r : R8)
  /-- `BIT b,(HL)` (45_bit_incdec_fastA.md R255). -/
  | bitMhl (b : BitVec 3)
  /-- `BIT b,(IX+d)` (45_bit_incdec_fastA.md R256). -/
  | bitMix (b : BitVec 3) (d : Byte)
  /-- `BIT b,(IY+d)` (45_bit_incdec_fastA.md R257). -/
  | bitMiy (b : BitVec 3) (d : Byte)
  /-- `BIT b,r` (45_bit_incdec_fastA.md R258). -/
  | bitR (b : BitVec 3) (r : R8)
  /-- `RES b,(HL)` (45_bit_incdec_fastA.md R259). -/
  | resMhl (b : BitVec 3)
  /-- `RES b,(IX+d)` (45_bit_incdec_fastA.md R260). -/
  | resMix (b : BitVec 3) (d : Byte)
  /-- `RES b,(IY+d)` (45_bit_incdec_fastA.md R261). -/
  | resMiy (b : BitVec 3) (d : Byte)
  /-- `RES b,r` (45_bit_incdec_fastA.md R262). -/
  | resR (b : BitVec 3) (r : R8)
  /-- `SET b,(HL)` (45_bit_incdec_fastA.md R263). -/
  | setMhl (b : BitVec 3)
  /-- `SET b,(IX+d)` (45_bit_incdec_fastA.md R264). -/
  | setMix (b : BitVec 3) (d : Byte)
  /-- `SET b,(IY+d)` (45_bit_incdec_fastA.md R265). -/
  | setMiy (b : BitVec 3) (d : Byte)
  /-- `SET b,r` (45_bit_incdec_fastA.md R266). -/
  | setR (b : BitVec 3) (r : R8)
  /-- `DEC (HL)` (45_bit_incdec_fastA.md R268). -/
  | decMhl
  /-- `DEC (IX+d)` (45_bit_incdec_fastA.md R269). -/
  | decMix (d : Byte)
  /-- `DEC (IY+d)` (45_bit_incdec_fastA.md R270). -/
  | decMiy (d : Byte)
  /-- `DEC r` (45_bit_incdec_fastA.md R271). -/
  | decR (r : R8)
  /-- `INC (HL)` (45_bit_incdec_fastA.md R272). -/
  | incMhl
  /-- `INC (IX+d)` (45_bit_incdec_fastA.md R273). -/
  | incMix (d : Byte)
  /-- `INC (IY+d)` (45_bit_incdec_fastA.md R274). -/
  | incMiy (d : Byte)
  /-- `INC r` (45_bit_incdec_fastA.md R275). -/
  | incR (r : R8)
  /-- `CPL` (45_bit_incdec_fastA.md R276). -/
  | cpl
  /-- `NEG` (45_bit_incdec_fastA.md R277). -/
  | neg
  /-- `RLA` (45_bit_incdec_fastA.md R278). -/
  | rla
  /-- `RLCA` (45_bit_incdec_fastA.md R279). -/
  | rlca
  /-- `RRA` (45_bit_incdec_fastA.md R280). -/
  | rra
  /-- `RRCA` (45_bit_incdec_fastA.md R281). -/
  | rrca
  /-- `RL (HL)` (46_shift_rotate.md R283). -/
  | rlMhl
  /-- `RL (IX+d)` (46_shift_rotate.md R284). -/
  | rlMix (d : Byte)
  /-- `RL (IY+d)` (46_shift_rotate.md R285). -/
  | rlMiy (d : Byte)
  /-- `RL r` (46_shift_rotate.md R286). -/
  | rlR (r : R8)
  /-- `RLC (HL)` (46_shift_rotate.md R287). -/
  | rlcMhl
  /-- `RLC (IX+d)` (46_shift_rotate.md R288). -/
  | rlcMix (d : Byte)
  /-- `RLC (IY+d)` (46_shift_rotate.md R289). -/
  | rlcMiy (d : Byte)
  /-- `RLC r` (46_shift_rotate.md R290). -/
  | rlcR (r : R8)
  /-- `RR (HL)` (46_shift_rotate.md R291). -/
  | rrMhl
  /-- `RR (IX+d)` (46_shift_rotate.md R292). -/
  | rrMix (d : Byte)
  /-- `RR (IY+d)` (46_shift_rotate.md R293). -/
  | rrMiy (d : Byte)
  /-- `RR r` (46_shift_rotate.md R294). -/
  | rrR (r : R8)
  /-- `RRC (HL)` (46_shift_rotate.md R295). -/
  | rrcMhl
  /-- `RRC (IX+d)` (46_shift_rotate.md R296). -/
  | rrcMix (d : Byte)
  /-- `RRC (IY+d)` (46_shift_rotate.md R297). -/
  | rrcMiy (d : Byte)
  /-- `RRC r` (46_shift_rotate.md R298). -/
  | rrcR (r : R8)
  /-- `SLA (HL)` (46_shift_rotate.md R299). -/
  | slaMhl
  /-- `SLA (IX+d)` (46_shift_rotate.md R300). -/
  | slaMix (d : Byte)
  /-- `SLA (IY+d)` (46_shift_rotate.md R301). -/
  | slaMiy (d : Byte)
  /-- `SLA r` (46_shift_rotate.md R302). -/
  | slaR (r : R8)
  /-- `SRA (HL)` (46_shift_rotate.md R303). -/
  | sraMhl
  /-- `SRA (IX+d)` (46_shift_rotate.md R304). -/
  | sraMix (d : Byte)
  /-- `SRA (IY+d)` (46_shift_rotate.md R305). -/
  | sraMiy (d : Byte)
  /-- `SRA r` (46_shift_rotate.md R306). -/
  | sraR (r : R8)
  /-- `SRL (HL)` (46_shift_rotate.md R307). -/
  | srlMhl
  /-- `SRL (IX+d)` (46_shift_rotate.md R308). -/
  | srlMix (d : Byte)
  /-- `SRL (IY+d)` (46_shift_rotate.md R309). -/
  | srlMiy (d : Byte)
  /-- `SRL r` (46_shift_rotate.md R310). -/
  | srlR (r : R8)
  /-- `ALTD` (47_prefix_block.md R311). -/
  | altd (j : Instr)
  /-- `IOE` (47_prefix_block.md R312). -/
  | ioe (j : Instr)
  /-- `IOI` (47_prefix_block.md R313). -/
  | ioi (j : Instr)
  /-- `LDD` (47_prefix_block.md R316). -/
  | ldd
  /-- `LDDR` (47_prefix_block.md R317). -/
  | lddr
  /-- `LDI` (47_prefix_block.md R318). -/
  | ldi
  /-- `LDIR` (47_prefix_block.md R319). -/
  | ldir
  /-- `CALL mn` (48_control.md R321). -/
  | callMn (mn : Word)
  /-- `DJNZ j` (48_control.md R322). -/
  | djnz (e : Byte)
  /-- `JP (HL)` (48_control.md R323). -/
  | jpHL
  /-- `JP (IX)` (48_control.md R324). -/
  | jpIX
  /-- `JP (IY)` (48_control.md R325). -/
  | jpIY
  /-- `JP f,mn` (48_control.md R326). -/
  | jpF (f : CondF) (mn : Word)
  /-- `JP mn` (48_control.md R327). -/
  | jpMn (mn : Word)
  /-- `JR cc,e` (48_control.md R328). -/
  | jrCC (cc : CondCC) (e : Byte)
  /-- `JR e` (48_control.md R329). -/
  | jrE (e : Byte)
  /-- `LCALL xpc,mn` (48_control.md R330). -/
  | lcall (x : Byte) (mn : Word)
  /-- `LJP xpc,mn` (48_control.md R331). -/
  | ljp (x : Byte) (mn : Word)
  /-- `LRET` (48_control.md R332). -/
  | lret
  /-- `RET` (48_control.md R333). -/
  | ret
  /-- `RET f` (48_control.md R334). -/
  | retF (f : CondF)
  /-- `RETI` (48_control.md R335). -/
  | reti
  /-- `RST v` (48_control.md R336). -/
  | rst (v : Rst)
  /-- `CCF` (49_misc_privileged.md R337). -/
  | ccf
  /-- `IPSET 0` (49_misc_privileged.md R338). -/
  | ipset0
  /-- `IPSET 1` (49_misc_privileged.md R339). -/
  | ipset1
  /-- `IPSET 2` (49_misc_privileged.md R340). -/
  | ipset2
  /-- `IPSET 3` (49_misc_privileged.md R341). -/
  | ipset3
  /-- `IPRES` (49_misc_privileged.md R342). -/
  | ipres
  /-- `NOP` (49_misc_privileged.md R343). -/
  | nop
  /-- `SCF` (49_misc_privileged.md R344). -/
  | scf
  deriving DecidableEq, Repr

end Sys2Proof
end

