-- ==== Sys2Proof/WellFormed.lean ====
section
/-!
DEFINITION. Which instruction terms some byte sequence stands for. The operand types already exclude every field
code the key does not list (00_scope.md R8), so what is left to check is the nesting of prefixes: the defined prefix
sets of 30_encoding.md R66, and the two rows that are the ALTD forms of other rows (42_move_exchange_stack.md R172,
R174), which are written by their own constructors.
-/
namespace Sys2Proof

namespace Instr

/-- The instruction starts with a prefix constructor. -/
def isPrefixed : Instr → Bool
  | .altd _ => true
  | .ioi _ => true
  | .ioe _ => true
  | _ => false

/-- The two rows whose first byte is the ALTD prefix: `EX DE',HL'` and `EX DE,HL'` (42_move_exchange_stack.md R172,
R174). -/
def isAltdRow : Instr → Bool
  | .exDEaHLa => true
  | .exDEHLa => true
  | _ => false

/-- The two rows whose ALTD form is a row of its own: `EX DE',HL` and `EX DE,HL` (42_move_exchange_stack.md R171,
R173). -/
def hasAltdRow : Instr → Bool
  | .exDEaHL => true
  | .exDEHL => true
  | _ => false

/-- One of the 231 rows that are decoded after the prefixes: no prefix constructor, no ALTD row. -/
def isBase (i : Instr) : Bool := !i.isPrefixed && !i.isAltdRow

/-- The instruction after an ALTD prefix constructor. -/
def afterAltd : Instr → Option Instr
  | .altd j => some j
  | _ => none

/-- The instruction after an IOI or IOE prefix constructor. -/
def afterIo : Instr → Option Instr
  | .ioi j => some j
  | .ioe j => some j
  | _ => none

/-- The prefix sets of 30_encoding.md R66: at most one ALTD and at most one of IOI, IOE, in either order. The ALTD
that stands directly before `EX DE',HL` or `EX DE,HL` is not written as a prefix: it makes the row `EX DE',HL'` or
`EX DE,HL'`. -/
def wf (i : Instr) : Bool :=
  match i.afterAltd with
  | some j =>
    match j.afterIo with
    | some k => k.isBase
    | none => j.isBase && !j.hasAltdRow
  | none =>
    match i.afterIo with
    | some j =>
      match j.afterAltd with
      | some k => k.isBase && !k.hasAltdRow
      | none => !j.isPrefixed
    | none => true

end Instr

/-- The instruction is one that some byte sequence encodes. -/
abbrev WellFormed (i : Instr) : Prop := i.wf = true

end Sys2Proof
end

