-- ==== Sys2Proof/Decode.lean ====
section
/-!
DEFINITION. The halves of a word and the extensions of a byte, the decoder, total on lists of bytes
(spec/30_encoding.md R60 to R69), the encoder, written from the same tables, and `decodeTableWord`. Opcode bytes are
general knowledge of the family, not the source's (PRESUMED, log 1).
-/
namespace Sys2Proof

/-! ## Halves and extensions (00_scope.md R5) -/

/-- The high byte of a word (00_scope.md R5: `PCH`, `IXH`, `zzh`). -/
def hiByte (w : Word) : Byte := w.extractLsb' 8 8

/-- The low byte of a word (00_scope.md R5: `PCL`, `IXL`, `zzl`). -/
def loByte (w : Word) : Byte := w.extractLsb' 0 8

/-- `{h, l}`: the word with high byte `h` and low byte `l` (00_scope.md R5). -/
def mkWord (h l : Byte) : Word := h ++ l

/-- `sext_16` of a displacement byte (00_scope.md R5). -/
def sext (d : Byte) : Word := d.signExtend 16

/-- `zext_16` of an unsigned byte (00_scope.md R5). -/
def zext (n : Byte) : Word := n.setWidth 16

/-! ## Refused bytes (30_encoding.md R69) -/

/-- Why a byte sequence is no instruction (30_encoding.md R69, 93_implementation_defined.md U1, U2, U5). Raised by
`decode` only; the step turns it into a refusal. Safe: the model gives the program no meaning. -/
inductive DecodeError where
  /-- The bytes end inside an instruction (no such end exists in memory; only a list of bytes has one). Safe. -/
  | truncated
  /-- A run of prefixes outside 30_encoding.md R66 goes on with the prefix byte `op`. Safe. -/
  | prefixRun (op : Byte)
  /-- `CB op` is not listed: the shift select 110. Safe. -/
  | undefinedCB (op : Byte)
  /-- `ED op` is not listed, the pair code 11 of `dd'` included. Safe. -/
  | undefinedED (op : Byte)
  /-- `DD op` is not listed. Safe. -/
  | undefinedDD (op : Byte)
  /-- `FD op` is not listed. Safe. -/
  | undefinedFD (op : Byte)
  /-- `DD CB d op` is not listed. Safe. -/
  | undefinedDDCB (op : Byte)
  /-- `FD CB d op` is not listed. Safe. -/
  | undefinedFDCB (op : Byte)
  deriving DecidableEq, Repr

/-! ## Field codes (00_scope.md R8) -/

/-- The code of a byte register (00_scope.md R8). -/
def R8.code : R8 → BitVec 3
  | .b => 0b000 | .c => 0b001 | .d => 0b010 | .e => 0b011 | .h => 0b100 | .l => 0b101 | .a => 0b111

/-- The byte register of a code; 110 names none (00_scope.md R8, 30_encoding.md R64). -/
def R8.ofCode (k : BitVec 3) : Option R8 :=
  match k.toNat with
  | 0 => some .b | 1 => some .c | 2 => some .d | 3 => some .e | 4 => some .h | 5 => some .l | 6 => none
  | _ => some .a

/-- The code of `dd`, `ss` (00_scope.md R8). -/
def SS.code : SS → BitVec 2
  | .bc => 0b00 | .de => 0b01 | .hl => 0b10 | .sp => 0b11

/-- The pair of a `dd`, `ss` code (00_scope.md R8). -/
def SS.ofCode (k : BitVec 2) : SS :=
  match k.toNat with
  | 0 => .bc | 1 => .de | 2 => .hl | _ => .sp

/-- The code of `xx` (00_scope.md R8). -/
def XX.code : XX → BitVec 2
  | .bc => 0b00 | .de => 0b01 | .ix => 0b10 | .sp => 0b11

/-- The word register of an `xx` code (00_scope.md R8). -/
def XX.ofCode (k : BitVec 2) : XX :=
  match k.toNat with
  | 0 => .bc | 1 => .de | 2 => .ix | _ => .sp

/-- The code of `yy` (00_scope.md R8). -/
def YY.code : YY → BitVec 2
  | .bc => 0b00 | .de => 0b01 | .iy => 0b10 | .sp => 0b11

/-- The word register of a `yy` code (00_scope.md R8). -/
def YY.ofCode (k : BitVec 2) : YY :=
  match k.toNat with
  | 0 => .bc | 1 => .de | 2 => .iy | _ => .sp

/-- The code of `zz` (00_scope.md R8). -/
def ZZ.code : ZZ → BitVec 2
  | .bc => 0b00 | .de => 0b01 | .hl => 0b10 | .af => 0b11

/-- The pair of a `zz` code (00_scope.md R8). -/
def ZZ.ofCode (k : BitVec 2) : ZZ :=
  match k.toNat with
  | 0 => .bc | 1 => .de | 2 => .hl | _ => .af

/-- The code of `dd'` (00_scope.md R8). -/
def DDa.code : DDa → BitVec 2
  | .bc => 0b00 | .de => 0b01 | .hl => 0b10

/-- The alternate pair of a `dd'` code; 11 names none (00_scope.md R8, 10_state.md R13). -/
def DDa.ofCode (k : BitVec 2) : Option DDa :=
  match k.toNat with
  | 0 => some .bc | 1 => some .de | 2 => some .hl | _ => none

/-- The code of a condition `f` (00_scope.md R8). -/
def CondF.code : CondF → BitVec 3
  | .nz => 0b000 | .z => 0b001 | .nc => 0b010 | .c => 0b011 | .lz => 0b100 | .lo => 0b101 | .p => 0b110 | .m => 0b111

/-- The condition of an `f` code (00_scope.md R8). -/
def CondF.ofCode (k : BitVec 3) : CondF :=
  match k.toNat with
  | 0 => .nz | 1 => .z | 2 => .nc | 3 => .c | 4 => .lz | 5 => .lo | 6 => .p | _ => .m

/-- The code of a condition `cc` (00_scope.md R8). -/
def CondCC.code : CondCC → BitVec 2
  | .nz => 0b00 | .z => 0b01 | .nc => 0b10 | .c => 0b11

/-- The condition of a `cc` code (00_scope.md R8). -/
def CondCC.ofCode (k : BitVec 2) : CondCC :=
  match k.toNat with
  | 0 => .nz | 1 => .z | 2 => .nc | _ => .c

/-- The code of a restart select (00_scope.md R8). -/
def Rst.code : Rst → BitVec 3
  | .v10 => 0b010 | .v18 => 0b011 | .v20 => 0b100 | .v28 => 0b101 | .v38 => 0b111

/-! ## Prefixes (30_encoding.md R66) -/

/-- The prefix set holds ALTD: `alt` of 30_encoding.md R66. -/
def Pfx.hasAlt : Pfx → Bool
  | .none => false | .altd => true | .ioi => false | .ioe => false
  | .altdIoi => true | .ioiAltd => true | .altdIoe => true | .ioeAltd => true

/-- The I/O space the prefix set selects: `io` of 30_encoding.md R66. -/
def Pfx.io : Pfx → Option IoSpace
  | .none => Option.none | .altd => Option.none | .ioi => some .int | .ioe => some .ext
  | .altdIoi => some .int | .ioiAltd => some .int | .altdIoe => some .ext | .ioeAltd => some .ext

/-- The bytes of a prefix set (47_prefix_block.md R311 to R313). -/
def Pfx.bytes : Pfx → List Byte
  | .none => [] | .altd => [0x76] | .ioi => [0xD3] | .ioe => [0xDB]
  | .altdIoi => [0x76, 0xD3] | .ioiAltd => [0xD3, 0x76] | .altdIoe => [0x76, 0xDB] | .ioeAltd => [0xDB, 0x76]

/-- `ALTD` directly before an instruction: the rows `EX DE',HL'` and `EX DE,HL'` are the ALTD forms of
`EX DE',HL` and `EX DE,HL` (42_move_exchange_stack.md R171 to R174); any other instruction is carried by the
prefix's constructor. -/
def altdOf : Instr → Instr
  | .exDEaHL => .exDEaHLa
  | .exDEHL => .exDEHLa
  | j => .altd j

/-- The instruction that a prefix set and the instruction after it make (30_encoding.md R66). -/
def Pfx.wrap : Pfx → Instr → Instr
  | .none, i => i
  | .altd, i => altdOf i
  | .ioi, i => .ioi i
  | .ioe, i => .ioe i
  | .altdIoi, i => .altd (.ioi i)
  | .ioiAltd, i => .ioi (altdOf i)
  | .altdIoe, i => .altd (.ioe i)
  | .ioeAltd, i => .ioe (altdOf i)

/-- Split off the prefix set that a byte sequence starts with (30_encoding.md R66). -/
def takePfx : List Byte → Pfx × List Byte
  | [] => (.none, [])
  | p :: rest =>
    if p = 0x76 then
      match rest with
      | [] => (.altd, [])
      | q :: r => if q = 0xD3 then (.altdIoi, r) else if q = 0xDB then (.altdIoe, r) else (.altd, q :: r)
    else if p = 0xD3 then
      match rest with
      | [] => (.ioi, [])
      | q :: r => if q = 0x76 then (.ioiAltd, r) else (.ioi, q :: r)
    else if p = 0xDB then
      match rest with
      | [] => (.ioe, [])
      | q :: r => if q = 0x76 then (.ioeAltd, r) else (.ioe, q :: r)
    else (.none, p :: rest)

/-! ## Opcode pages (30_encoding.md R63, R65, R67) -/

/-- An instruction, or why the bytes are none, and the bytes that follow. -/
abbrev Decoded := Except DecodeError (Instr × List Byte)

/-- An instruction without operand bytes. -/
def operand0 (i : Instr) (rest : List Byte) : Decoded := .ok (i, rest)

/-- An instruction with one operand byte (30_encoding.md R62). -/
def operand1 (k : Byte → Instr) : List Byte → Decoded
  | n :: rest => .ok (k n, rest)
  | [] => .error .truncated

/-- An instruction with a 16-bit constant: the byte `n`, then `m` (30_encoding.md R62). -/
def operandWord (k : Word → Instr) : List Byte → Decoded
  | n :: m :: rest => .ok (k (mkWord m n), rest)
  | _ => .error .truncated

/-- An instruction with a displacement and a constant byte, in this order (30_encoding.md R61, `PG_OP_D_N`). -/
def operandDN (k : Byte → Byte → Instr) : List Byte → Decoded
  | d :: n :: rest => .ok (k d n, rest)
  | _ => .error .truncated

/-- An instruction with a 16-bit constant and the byte `xpc`, in this order (30_encoding.md R61, `OP_MN_X`). -/
def operandFar (k : Byte → Word → Instr) : List Byte → Decoded
  | n :: m :: x :: rest => .ok (k x (mkWord m n), rest)
  | _ => .error .truncated

/-- Bits 7:6 of an opcode byte. -/
def opX (op : Byte) : BitVec 2 := op.extractLsb' 6 2

/-- Bits 5:3 of an opcode byte (30_encoding.md R63). -/
def opY (op : Byte) : BitVec 3 := op.extractLsb' 3 3

/-- Bits 2:0 of an opcode byte (30_encoding.md R63). -/
def opZ (op : Byte) : BitVec 3 := op.extractLsb' 0 3

/-- Bits 5:4 of an opcode byte, the pair selects (30_encoding.md R63). -/
def opPair (op : Byte) : BitVec 2 := op.extractLsb' 4 2

/-- Bits 4:3 of an opcode byte, the select `cc` (30_encoding.md R63). -/
def opCC (op : Byte) : BitVec 2 := op.extractLsb' 3 2

/-- The eight 8-bit operations on a register, by bits 5:3 (44_arith8.md R212). -/
def aluR (y : BitVec 3) (r : R8) : Instr :=
  match y.toNat with
  | 0 => .addR r
  | 1 => .adcR r
  | 2 => .subR r
  | 3 => .sbcR r
  | 4 => .andR r
  | 5 => .xorR r
  | 6 => .orR r
  | _ => .cpR r

/-- The eight 8-bit operations on a constant, by bits 5:3 (44_arith8.md R212). -/
def aluN (y : BitVec 3) (n : Byte) : Instr :=
  match y.toNat with
  | 0 => .addN n
  | 1 => .adcN n
  | 2 => .subN n
  | 3 => .sbcN n
  | 4 => .andN n
  | 5 => .xorN n
  | 6 => .orN n
  | _ => .cpN n

/-- The eight 8-bit operations on `(HL)`, by bits 5:3 (44_arith8.md R212). -/
def aluMhl (y : BitVec 3) : Instr :=
  match y.toNat with
  | 0 => .addMhl
  | 1 => .adcMhl
  | 2 => .subMhl
  | 3 => .sbcMhl
  | 4 => .andMhl
  | 5 => .xorMhl
  | 6 => .orMhl
  | _ => .cpMhl

/-- The eight 8-bit operations on `(IX+d)`, by bits 5:3 (44_arith8.md R212). -/
def aluMix (y : BitVec 3) (d : Byte) : Instr :=
  match y.toNat with
  | 0 => .addMix d
  | 1 => .adcMix d
  | 2 => .subMix d
  | 3 => .sbcMix d
  | 4 => .andMix d
  | 5 => .xorMix d
  | 6 => .orMix d
  | _ => .cpMix d

/-- The eight 8-bit operations on `(IY+d)`, by bits 5:3 (44_arith8.md R212). -/
def aluMiy (y : BitVec 3) (d : Byte) : Instr :=
  match y.toNat with
  | 0 => .addMiy d
  | 1 => .adcMiy d
  | 2 => .subMiy d
  | 3 => .sbcMiy d
  | 4 => .andMiy d
  | 5 => .xorMiy d
  | 6 => .orMiy d
  | _ => .cpMiy d

/-- The shifts and rotates of a register, by bits 5:3; 110 is undefined (30_encoding.md R67). -/
def shiftR (y : BitVec 3) (r : R8) : Option Instr :=
  match y.toNat with
  | 0 => some (.rlcR r)
  | 1 => some (.rrcR r)
  | 2 => some (.rlR r)
  | 3 => some (.rrR r)
  | 4 => some (.slaR r)
  | 5 => some (.sraR r)
  | 6 => none
  | _ => some (.srlR r)

/-- The shifts and rotates of `(HL)`, by bits 5:3; 110 is undefined (30_encoding.md R67). -/
def shiftMhl (y : BitVec 3) : Option Instr :=
  match y.toNat with
  | 0 => some .rlcMhl
  | 1 => some .rrcMhl
  | 2 => some .rlMhl
  | 3 => some .rrMhl
  | 4 => some .slaMhl
  | 5 => some .sraMhl
  | 6 => none
  | _ => some .srlMhl

/-- The shifts and rotates of `(IX+d)`, by bits 5:3; 110 is undefined (30_encoding.md R67). -/
def shiftMix (y : BitVec 3) (d : Byte) : Option Instr :=
  match y.toNat with
  | 0 => some (.rlcMix d)
  | 1 => some (.rrcMix d)
  | 2 => some (.rlMix d)
  | 3 => some (.rrMix d)
  | 4 => some (.slaMix d)
  | 5 => some (.sraMix d)
  | 6 => none
  | _ => some (.srlMix d)

/-- The shifts and rotates of `(IY+d)`, by bits 5:3; 110 is undefined (30_encoding.md R67). -/
def shiftMiy (y : BitVec 3) (d : Byte) : Option Instr :=
  match y.toNat with
  | 0 => some (.rlcMiy d)
  | 1 => some (.rrcMiy d)
  | 2 => some (.rlMiy d)
  | 3 => some (.rrMiy d)
  | 4 => some (.slaMiy d)
  | 5 => some (.sraMiy d)
  | 6 => none
  | _ => some (.srlMiy d)

/-- Page `CB` (30_encoding.md R67). -/
def decodeCB (op : Byte) (rest : List Byte) : Decoded :=
  let y := opY op
  match R8.ofCode (opZ op) with
  | some r =>
    match (opX op).toNat with
    | 0 =>
      match shiftR y r with
      | some i => operand0 i rest
      | none => .error (.undefinedCB op)
    | 1 => operand0 (.bitR y r) rest
    | 2 => operand0 (.resR y r) rest
    | _ => operand0 (.setR y r) rest
  | none =>
    match (opX op).toNat with
    | 0 =>
      match shiftMhl y with
      | some i => operand0 i rest
      | none => .error (.undefinedCB op)
    | 1 => operand0 (.bitMhl y) rest
    | 2 => operand0 (.resMhl y) rest
    | _ => operand0 (.setMhl y) rest

/-- Page `DD CB`: the displacement byte stands before the opcode byte (30_encoding.md R60, R67). -/
def decodeDDCB (d op : Byte) (rest : List Byte) : Decoded :=
  if opZ op = 0b110 then
    match (opX op).toNat with
    | 0 =>
      match shiftMix (opY op) d with
      | some i => operand0 i rest
      | none => .error (.undefinedDDCB op)
    | 1 => operand0 (.bitMix (opY op) d) rest
    | 2 => operand0 (.resMix (opY op) d) rest
    | _ => operand0 (.setMix (opY op) d) rest
  else .error (.undefinedDDCB op)

/-- Page `FD CB`: the displacement byte stands before the opcode byte (30_encoding.md R60, R67). -/
def decodeFDCB (d op : Byte) (rest : List Byte) : Decoded :=
  if opZ op = 0b110 then
    match (opX op).toNat with
    | 0 =>
      match shiftMiy (opY op) d with
      | some i => operand0 i rest
      | none => .error (.undefinedFDCB op)
    | 1 => operand0 (.bitMiy (opY op) d) rest
    | 2 => operand0 (.resMiy (opY op) d) rest
    | _ => operand0 (.setMiy (opY op) d) rest
  else .error (.undefinedFDCB op)

/-- Page `ED` (30_encoding.md R67). -/
def decodeED (op : Byte) (rest : List Byte) : Decoded :=
  match op.toNat with
  | 0x41 | 0x51 | 0x61 => match DDa.ofCode (opPair op) with
    | some dd => operand0 (.ldDDaDE dd) rest
    | none => .error (.undefinedED op)
  | 0x49 | 0x59 | 0x69 => match DDa.ofCode (opPair op) with
    | some dd => operand0 (.ldDDaBC dd) rest
    | none => .error (.undefinedED op)
  | 0x42 | 0x52 | 0x62 | 0x72 => operand0 (.sbcHLss (SS.ofCode (opPair op))) rest
  | 0x4A | 0x5A | 0x6A | 0x7A => operand0 (.adcHLss (SS.ofCode (opPair op))) rest
  | 0x43 | 0x53 | 0x63 | 0x73 => operandWord (fun mn => .ldMmnSS mn (SS.ofCode (opPair op))) rest
  | 0x4B | 0x5B | 0x6B | 0x7B => operandWord (fun mn => .ldDDMmn (SS.ofCode (opPair op)) mn) rest
  | 0x44 => operand0 .neg rest
  | 0x45 => operand0 .lret rest
  | 0x4D => operand0 .reti rest
  | 0x46 => operand0 .ipset0 rest
  | 0x56 => operand0 .ipset1 rest
  | 0x4E => operand0 .ipset2 rest
  | 0x5E => operand0 .ipset3 rest
  | 0x5D => operand0 .ipres rest
  | 0x47 => operand0 .ldEIRA rest
  | 0x4F => operand0 .ldIIRA rest
  | 0x57 => operand0 .ldAEIR rest
  | 0x5F => operand0 .ldAIIR rest
  | 0x67 => operand0 .ldXPCA rest
  | 0x77 => operand0 .ldAXPC rest
  | 0x54 => operand0 .exMspHL rest
  | 0x64 => operand0 .ldpMhlHL rest
  | 0x65 => operandWord .ldpMmnHL rest
  | 0x6C => operand0 .ldpHLMhl rest
  | 0x6D => operandWord .ldpHLMmn rest
  | 0x76 => operand0 .pushIP rest
  | 0x7E => operand0 .popIP rest
  | 0xA0 => operand0 .ldi rest
  | 0xA8 => operand0 .ldd rest
  | 0xB0 => operand0 .ldir rest
  | 0xB8 => operand0 .lddr rest
  | _ => .error (.undefinedED op)

/-- Page `DD`: the IX forms, and `LD HL,(HL+d)`, `LD (HL+d),HL` (30_encoding.md R67). -/
def decodeDD (op : Byte) (rest : List Byte) : Decoded :=
  match op.toNat with
  | 0x09 | 0x19 | 0x29 | 0x39 => operand0 (.addIXxx (XX.ofCode (opPair op))) rest
  | 0x21 => operandWord .ldIXmn rest
  | 0x22 => operandWord .ldMmnIX rest
  | 0x2A => operandWord .ldIXMmn rest
  | 0x23 => operand0 .incIX rest
  | 0x2B => operand0 .decIX rest
  | 0x34 => operand1 .incMix rest
  | 0x35 => operand1 .decMix rest
  | 0x36 => operandDN .ldMixN rest
  | 0x46 | 0x4E | 0x56 | 0x5E | 0x66 | 0x6E | 0x7E => match R8.ofCode (opY op) with
    | some r => operand1 (.ldRMix r) rest
    | none => .error (.undefinedDD op)
  | 0x70 | 0x71 | 0x72 | 0x73 | 0x74 | 0x75 | 0x77 => match R8.ofCode (opZ op) with
    | some r => operand1 (fun d => .ldMixR d r) rest
    | none => .error (.undefinedDD op)
  | 0x64 => operand0 .ldpMixHL rest
  | 0x65 => operandWord .ldpMmnIX rest
  | 0x6C => operand0 .ldpHLMix rest
  | 0x6D => operandWord .ldpIXMmn rest
  | 0x7C => operand0 .ldHLIX rest
  | 0x7D => operand0 .ldIXHL rest
  | 0x86 | 0x8E | 0x96 | 0x9E | 0xA6 | 0xAE | 0xB6 | 0xBE => operand1 (aluMix (opY op)) rest
  | 0xC4 => operand1 .ldIXMsp rest
  | 0xD4 => operand1 .ldMspIX rest
  | 0xCC => operand0 .boolIX rest
  | 0xDC => operand0 .andIXDE rest
  | 0xEC => operand0 .orIXDE rest
  | 0xFC => operand0 .rrIX rest
  | 0xE1 => operand0 .popIX rest
  | 0xE5 => operand0 .pushIX rest
  | 0xE3 => operand0 .exMspIX rest
  | 0xE9 => operand0 .jpIX rest
  | 0xF9 => operand0 .ldSPIX rest
  | 0xE4 => operand1 .ldHLMhld rest
  | 0xF4 => operand1 .ldMhldHL rest
  | 0xCB => match rest with
    | d :: k :: r => decodeDDCB d k r
    | _ => .error .truncated
  | _ => .error (.undefinedDD op)

/-- Page `FD`: the IY forms, `LD HL,(IY+d)` and `LD (IY+d),HL` among them (30_encoding.md R67). -/
def decodeFD (op : Byte) (rest : List Byte) : Decoded :=
  match op.toNat with
  | 0x09 | 0x19 | 0x29 | 0x39 => operand0 (.addIYyy (YY.ofCode (opPair op))) rest
  | 0x21 => operandWord .ldIYmn rest
  | 0x22 => operandWord .ldMmnIY rest
  | 0x2A => operandWord .ldIYMmn rest
  | 0x23 => operand0 .incIY rest
  | 0x2B => operand0 .decIY rest
  | 0x34 => operand1 .incMiy rest
  | 0x35 => operand1 .decMiy rest
  | 0x36 => operandDN .ldMiyN rest
  | 0x46 | 0x4E | 0x56 | 0x5E | 0x66 | 0x6E | 0x7E => match R8.ofCode (opY op) with
    | some r => operand1 (.ldRMiy r) rest
    | none => .error (.undefinedFD op)
  | 0x70 | 0x71 | 0x72 | 0x73 | 0x74 | 0x75 | 0x77 => match R8.ofCode (opZ op) with
    | some r => operand1 (fun d => .ldMiyR d r) rest
    | none => .error (.undefinedFD op)
  | 0x64 => operand0 .ldpMiyHL rest
  | 0x65 => operandWord .ldpMmnIY rest
  | 0x6C => operand0 .ldpHLMiy rest
  | 0x6D => operandWord .ldpIYMmn rest
  | 0x7C => operand0 .ldHLIY rest
  | 0x7D => operand0 .ldIYHL rest
  | 0x86 | 0x8E | 0x96 | 0x9E | 0xA6 | 0xAE | 0xB6 | 0xBE => operand1 (aluMiy (opY op)) rest
  | 0xC4 => operand1 .ldIYMsp rest
  | 0xD4 => operand1 .ldMspIY rest
  | 0xCC => operand0 .boolIY rest
  | 0xDC => operand0 .andIYDE rest
  | 0xEC => operand0 .orIYDE rest
  | 0xFC => operand0 .rrIY rest
  | 0xE1 => operand0 .popIY rest
  | 0xE5 => operand0 .pushIY rest
  | 0xE3 => operand0 .exMspIY rest
  | 0xE9 => operand0 .jpIY rest
  | 0xF9 => operand0 .ldSPIY rest
  | 0xE4 => operand1 .ldHLMiy rest
  | 0xF4 => operand1 .ldMiyHL rest
  | 0xCB => match rest with
    | d :: k :: r => decodeFDCB d k r
    | _ => .error .truncated
  | _ => .error (.undefinedFD op)

/-- The first byte, bits 7:6 = 00 (30_encoding.md R67). -/
def decodeX0 (op : Byte) (rest : List Byte) : Decoded :=
  let y := opY op
  let ss := SS.ofCode (opPair op)
  match (opZ op).toNat with
  | 0 =>
    match y.toNat with
    | 0 => operand0 .nop rest
    | 1 => operand0 .exAF rest
    | 2 => operand1 .djnz rest
    | 3 => operand1 .jrE rest
    | _ => operand1 (.jrCC (CondCC.ofCode (opCC op))) rest
  | 1 => if y.getLsbD 0 then operand0 (.addHLss ss) rest else operandWord (.ldDDmn ss) rest
  | 2 =>
    match y.toNat with
    | 0 => operand0 .ldMbcA rest
    | 1 => operand0 .ldAMbc rest
    | 2 => operand0 .ldMdeA rest
    | 3 => operand0 .ldAMde rest
    | 4 => operandWord .ldMmnHL rest
    | 5 => operandWord .ldHLMmn rest
    | 6 => operandWord .ldMmnA rest
    | _ => operandWord .ldAMmn rest
  | 3 => if y.getLsbD 0 then operand0 (.decSS ss) rest else operand0 (.incSS ss) rest
  | 4 =>
    match R8.ofCode y with
    | some r => operand0 (.incR r) rest
    | none => operand0 .incMhl rest
  | 5 =>
    match R8.ofCode y with
    | some r => operand0 (.decR r) rest
    | none => operand0 .decMhl rest
  | 6 =>
    match R8.ofCode y with
    | some r => operand1 (.ldRN r) rest
    | none => operand1 .ldMhlN rest
  | _ =>
    match y.toNat with
    | 0 => operand0 .rlca rest
    | 1 => operand0 .rrca rest
    | 2 => operand0 .rla rest
    | 3 => operand0 .rra rest
    | 4 => operand1 .addSPd rest
    | 5 => operand0 .cpl rest
    | 6 => operand0 .scf rest
    | _ => operand0 .ccf rest

/-- The first byte, bits 7:6 = 01: the 8-bit loads; 76, where both fields are 110, is the ALTD prefix
(30_encoding.md R64, R67). -/
def decodeX1 (op : Byte) (rest : List Byte) : Decoded :=
  match R8.ofCode (opY op), R8.ofCode (opZ op) with
  | some r, some g => operand0 (.ldRG r g) rest
  | some r, none => operand0 (.ldRMhl r) rest
  | none, some r => operand0 (.ldMhlR r) rest
  | none, none => .error (.prefixRun op)

/-- The first byte, bits 7:6 = 10: the 8-bit operations (30_encoding.md R67, 44_arith8.md R212). -/
def decodeX2 (op : Byte) (rest : List Byte) : Decoded :=
  match R8.ofCode (opZ op) with
  | some r => operand0 (aluR (opY op) r) rest
  | none => operand0 (aluMhl (opY op)) rest

/-- The first byte, bits 7:6 = 11 (30_encoding.md R67). -/
def decodeX3 (op : Byte) (rest : List Byte) : Decoded :=
  let y := opY op
  match (opZ op).toNat with
  | 0 => operand0 (.retF (CondF.ofCode y)) rest
  | 1 =>
    match y.toNat with
    | 1 => operand0 .ret rest
    | 3 => operand0 .exx rest
    | 5 => operand0 .jpHL rest
    | 7 => operand0 .ldSPHL rest
    | _ => operand0 (.popZZ (ZZ.ofCode (opPair op))) rest
  | 2 => operandWord (.jpF (CondF.ofCode y)) rest
  | 3 =>
    match y.toNat with
    | 0 => operandWord .jpMn rest
    | 1 =>
      match rest with
      | k :: r => decodeCB k r
      | [] => .error .truncated
    | 2 => .error (.prefixRun op)
    | 3 => .error (.prefixRun op)
    | 4 => operand0 .exDEaHL rest
    | 5 => operand0 .exDEHL rest
    | 6 => operand0 .rlDE rest
    | _ => operand0 .rrDE rest
  | 4 =>
    match y.toNat with
    | 0 => operand1 .ldHLMsp rest
    | 1 => operand0 .boolHL rest
    | 2 => operand1 .ldMspHL rest
    | 3 => operand0 .andHLDE rest
    | 4 => operand1 .ldHLMix rest
    | 5 => operand0 .orHLDE rest
    | 6 => operand1 .ldMixHL rest
    | _ => operand0 .rrHL rest
  | 5 =>
    match y.toNat with
    | 1 => operandWord .callMn rest
    | 3 =>
      match rest with
      | k :: r => decodeDD k r
      | [] => .error .truncated
    | 5 =>
      match rest with
      | k :: r => decodeED k r
      | [] => .error .truncated
    | 7 =>
      match rest with
      | k :: r => decodeFD k r
      | [] => .error .truncated
    | _ => operand0 (.pushZZ (ZZ.ofCode (opPair op))) rest
  | 6 => operand1 (aluN y) rest
  | _ =>
    match y.toNat with
    | 0 => operandFar .ljp rest
    | 1 => operandFar .lcall rest
    | 2 => operand0 (.rst .v10) rest
    | 3 => operand0 (.rst .v18) rest
    | 4 => operand0 (.rst .v20) rest
    | 5 => operand0 (.rst .v28) rest
    | 6 => operand0 .mul rest
    | _ => operand0 (.rst .v38) rest

/-- The instruction after the prefixes (30_encoding.md R65, R67, R68); a further prefix byte is a run that
30_encoding.md R66 does not define. -/
def decodeBase : List Byte → Decoded
  | [] => .error .truncated
  | op :: rest =>
    match (opX op).toNat with
    | 0 => decodeX0 op rest
    | 1 => decodeX1 op rest
    | 2 => decodeX2 op rest
    | _ => decodeX3 op rest

/-- The instruction at the head of a byte sequence, its prefixes included, and the bytes after it
(30_encoding.md R66). -/
def decode (bs : List Byte) : Decoded :=
  match decodeBase (takePfx bs).2 with
  | .ok (i, rest) => .ok ((takePfx bs).1.wrap i, rest)
  | .error e => .error e

/-! ## The encoder (30_encoding.md R60 to R67; column `encoding` of spec/opcode_table.json) -/

/-- The bytes of an instruction, first byte first. -/
def encode : Instr → List Byte
  | .ldIXmn mn => [0xDD, 0x21, loByte mn, hiByte mn]
  | .ldIYmn mn => [0xFD, 0x21, loByte mn, hiByte mn]
  | .ldDDmn dd mn => [0b00#2 ++ dd.code ++ 0b0001#4, loByte mn, hiByte mn]
  | .ldRN r n => [0b00#2 ++ r.code ++ 0b110#3, n]
  | .ldMmnA mn => [0x32, loByte mn, hiByte mn]
  | .ldAMmn mn => [0x3A, loByte mn, hiByte mn]
  | .ldMmnHL mn => [0x22, loByte mn, hiByte mn]
  | .ldMmnIX mn => [0xDD, 0x22, loByte mn, hiByte mn]
  | .ldMmnIY mn => [0xFD, 0x22, loByte mn, hiByte mn]
  | .ldMmnSS mn ss => [0xED, 0b01#2 ++ ss.code ++ 0b0011#4, loByte mn, hiByte mn]
  | .ldHLMmn mn => [0x2A, loByte mn, hiByte mn]
  | .ldIXMmn mn => [0xDD, 0x2A, loByte mn, hiByte mn]
  | .ldIYMmn mn => [0xFD, 0x2A, loByte mn, hiByte mn]
  | .ldDDMmn dd mn => [0xED, 0b01#2 ++ dd.code ++ 0b1011#4, loByte mn, hiByte mn]
  | .ldAMbc => [0x0A]
  | .ldAMde => [0x1A]
  | .ldMbcA => [0x02]
  | .ldMdeA => [0x12]
  | .ldMhlN n => [0x36, n]
  | .ldMhlR r => [0b01110#5 ++ r.code]
  | .ldRMhl r => [0b01#2 ++ r.code ++ 0b110#3]
  | .ldMixN d n => [0xDD, 0x36, d, n]
  | .ldMixR d r => [0xDD, 0b01110#5 ++ r.code, d]
  | .ldRMix r d => [0xDD, 0b01#2 ++ r.code ++ 0b110#3, d]
  | .ldMiyN d n => [0xFD, 0x36, d, n]
  | .ldMiyR d r => [0xFD, 0b01110#5 ++ r.code, d]
  | .ldRMiy r d => [0xFD, 0b01#2 ++ r.code ++ 0b110#3, d]
  | .ldMhldHL d => [0xDD, 0xF4, d]
  | .ldHLMhld d => [0xDD, 0xE4, d]
  | .ldMspHL n => [0xD4, n]
  | .ldMspIX n => [0xDD, 0xD4, n]
  | .ldMspIY n => [0xFD, 0xD4, n]
  | .ldHLMsp n => [0xC4, n]
  | .ldIXMsp n => [0xDD, 0xC4, n]
  | .ldIYMsp n => [0xFD, 0xC4, n]
  | .ldMixHL d => [0xF4, d]
  | .ldHLMix d => [0xE4, d]
  | .ldMiyHL d => [0xFD, 0xF4, d]
  | .ldHLMiy d => [0xFD, 0xE4, d]
  | .ldpMhlHL => [0xED, 0x64]
  | .ldpMixHL => [0xDD, 0x64]
  | .ldpMiyHL => [0xFD, 0x64]
  | .ldpHLMhl => [0xED, 0x6C]
  | .ldpHLMix => [0xDD, 0x6C]
  | .ldpHLMiy => [0xFD, 0x6C]
  | .ldpMmnHL mn => [0xED, 0x65, loByte mn, hiByte mn]
  | .ldpMmnIX mn => [0xDD, 0x65, loByte mn, hiByte mn]
  | .ldpMmnIY mn => [0xFD, 0x65, loByte mn, hiByte mn]
  | .ldpHLMmn mn => [0xED, 0x6D, loByte mn, hiByte mn]
  | .ldpIXMmn mn => [0xDD, 0x6D, loByte mn, hiByte mn]
  | .ldpIYMmn mn => [0xFD, 0x6D, loByte mn, hiByte mn]
  | .ldRG r g => [0b01#2 ++ r.code ++ g.code]
  | .ldAEIR => [0xED, 0x57]
  | .ldAIIR => [0xED, 0x5F]
  | .ldAXPC => [0xED, 0x77]
  | .ldEIRA => [0xED, 0x47]
  | .ldIIRA => [0xED, 0x4F]
  | .ldXPCA => [0xED, 0x67]
  | .ldHLIX => [0xDD, 0x7C]
  | .ldHLIY => [0xFD, 0x7C]
  | .ldIXHL => [0xDD, 0x7D]
  | .ldIYHL => [0xFD, 0x7D]
  | .ldSPHL => [0xF9]
  | .ldSPIX => [0xDD, 0xF9]
  | .ldSPIY => [0xFD, 0xF9]
  | .ldDDaBC dd => [0xED, 0b01#2 ++ dd.code ++ 0b1001#4]
  | .ldDDaDE dd => [0xED, 0b01#2 ++ dd.code ++ 0b0001#4]
  | .exMspHL => [0xED, 0x54]
  | .exMspIX => [0xDD, 0xE3]
  | .exMspIY => [0xFD, 0xE3]
  | .exAF => [0x08]
  | .exDEaHL => [0xE3]
  | .exDEaHLa => [0x76, 0xE3]
  | .exDEHL => [0xEB]
  | .exDEHLa => [0x76, 0xEB]
  | .exx => [0xD9]
  | .addSPd d => [0x27, d]
  | .popIP => [0xED, 0x7E]
  | .popIX => [0xDD, 0xE1]
  | .popIY => [0xFD, 0xE1]
  | .popZZ zz => [0b11#2 ++ zz.code ++ 0b0001#4]
  | .pushIP => [0xED, 0x76]
  | .pushIX => [0xDD, 0xE5]
  | .pushIY => [0xFD, 0xE5]
  | .pushZZ zz => [0b11#2 ++ zz.code ++ 0b0101#4]
  | .adcHLss ss => [0xED, 0b01#2 ++ ss.code ++ 0b1010#4]
  | .addHLss ss => [0b00#2 ++ ss.code ++ 0b1001#4]
  | .addIXxx xx => [0xDD, 0b00#2 ++ xx.code ++ 0b1001#4]
  | .addIYyy yy => [0xFD, 0b00#2 ++ yy.code ++ 0b1001#4]
  | .andHLDE => [0xDC]
  | .andIXDE => [0xDD, 0xDC]
  | .andIYDE => [0xFD, 0xDC]
  | .boolHL => [0xCC]
  | .boolIX => [0xDD, 0xCC]
  | .boolIY => [0xFD, 0xCC]
  | .decIX => [0xDD, 0x2B]
  | .decIY => [0xFD, 0x2B]
  | .decSS ss => [0b00#2 ++ ss.code ++ 0b1011#4]
  | .incIX => [0xDD, 0x23]
  | .incIY => [0xFD, 0x23]
  | .incSS ss => [0b00#2 ++ ss.code ++ 0b0011#4]
  | .mul => [0xF7]
  | .orHLDE => [0xEC]
  | .orIXDE => [0xDD, 0xEC]
  | .orIYDE => [0xFD, 0xEC]
  | .rlDE => [0xF3]
  | .rrDE => [0xFB]
  | .rrHL => [0xFC]
  | .rrIX => [0xDD, 0xFC]
  | .rrIY => [0xFD, 0xFC]
  | .sbcHLss ss => [0xED, 0b01#2 ++ ss.code ++ 0b0010#4]
  | .adcMhl => [0b10001110#8]
  | .adcMix d => [0xDD, 0b10001110#8, d]
  | .adcMiy d => [0xFD, 0b10001110#8, d]
  | .adcN n => [0b11001110#8, n]
  | .adcR r => [0b10001#5 ++ r.code]
  | .addMhl => [0b10000110#8]
  | .addMix d => [0xDD, 0b10000110#8, d]
  | .addMiy d => [0xFD, 0b10000110#8, d]
  | .addN n => [0b11000110#8, n]
  | .addR r => [0b10000#5 ++ r.code]
  | .andMhl => [0b10100110#8]
  | .andMix d => [0xDD, 0b10100110#8, d]
  | .andMiy d => [0xFD, 0b10100110#8, d]
  | .andN n => [0b11100110#8, n]
  | .andR r => [0b10100#5 ++ r.code]
  | .cpMhl => [0b10111110#8]
  | .cpMix d => [0xDD, 0b10111110#8, d]
  | .cpMiy d => [0xFD, 0b10111110#8, d]
  | .cpN n => [0b11111110#8, n]
  | .cpR r => [0b10111#5 ++ r.code]
  | .orMhl => [0b10110110#8]
  | .orMix d => [0xDD, 0b10110110#8, d]
  | .orMiy d => [0xFD, 0b10110110#8, d]
  | .orN n => [0b11110110#8, n]
  | .orR r => [0b10110#5 ++ r.code]
  | .sbcMix d => [0xDD, 0b10011110#8, d]
  | .sbcMiy d => [0xFD, 0b10011110#8, d]
  | .sbcMhl => [0b10011110#8]
  | .sbcN n => [0b11011110#8, n]
  | .sbcR r => [0b10011#5 ++ r.code]
  | .subMhl => [0b10010110#8]
  | .subMix d => [0xDD, 0b10010110#8, d]
  | .subMiy d => [0xFD, 0b10010110#8, d]
  | .subN n => [0b11010110#8, n]
  | .subR r => [0b10010#5 ++ r.code]
  | .xorMhl => [0b10101110#8]
  | .xorMix d => [0xDD, 0b10101110#8, d]
  | .xorMiy d => [0xFD, 0b10101110#8, d]
  | .xorN n => [0b11101110#8, n]
  | .xorR r => [0b10101#5 ++ r.code]
  | .bitMhl b => [0xCB, 0b01#2 ++ b ++ 0b110#3]
  | .bitMix b d => [0xDD, 0xCB, d, 0b01#2 ++ b ++ 0b110#3]
  | .bitMiy b d => [0xFD, 0xCB, d, 0b01#2 ++ b ++ 0b110#3]
  | .bitR b r => [0xCB, 0b01#2 ++ b ++ r.code]
  | .resMhl b => [0xCB, 0b10#2 ++ b ++ 0b110#3]
  | .resMix b d => [0xDD, 0xCB, d, 0b10#2 ++ b ++ 0b110#3]
  | .resMiy b d => [0xFD, 0xCB, d, 0b10#2 ++ b ++ 0b110#3]
  | .resR b r => [0xCB, 0b10#2 ++ b ++ r.code]
  | .setMhl b => [0xCB, 0b11#2 ++ b ++ 0b110#3]
  | .setMix b d => [0xDD, 0xCB, d, 0b11#2 ++ b ++ 0b110#3]
  | .setMiy b d => [0xFD, 0xCB, d, 0b11#2 ++ b ++ 0b110#3]
  | .setR b r => [0xCB, 0b11#2 ++ b ++ r.code]
  | .decMhl => [0x35]
  | .decMix d => [0xDD, 0x35, d]
  | .decMiy d => [0xFD, 0x35, d]
  | .decR r => [0b00#2 ++ r.code ++ 0b101#3]
  | .incMhl => [0x34]
  | .incMix d => [0xDD, 0x34, d]
  | .incMiy d => [0xFD, 0x34, d]
  | .incR r => [0b00#2 ++ r.code ++ 0b100#3]
  | .cpl => [0x2F]
  | .neg => [0xED, 0x44]
  | .rla => [0x17]
  | .rlca => [0x07]
  | .rra => [0x1F]
  | .rrca => [0x0F]
  | .rlMhl => [0xCB, 0b00010110#8]
  | .rlMix d => [0xDD, 0xCB, d, 0b00010110#8]
  | .rlMiy d => [0xFD, 0xCB, d, 0b00010110#8]
  | .rlR r => [0xCB, 0b00010#5 ++ r.code]
  | .rlcMhl => [0xCB, 0b00000110#8]
  | .rlcMix d => [0xDD, 0xCB, d, 0b00000110#8]
  | .rlcMiy d => [0xFD, 0xCB, d, 0b00000110#8]
  | .rlcR r => [0xCB, 0b00000#5 ++ r.code]
  | .rrMhl => [0xCB, 0b00011110#8]
  | .rrMix d => [0xDD, 0xCB, d, 0b00011110#8]
  | .rrMiy d => [0xFD, 0xCB, d, 0b00011110#8]
  | .rrR r => [0xCB, 0b00011#5 ++ r.code]
  | .rrcMhl => [0xCB, 0b00001110#8]
  | .rrcMix d => [0xDD, 0xCB, d, 0b00001110#8]
  | .rrcMiy d => [0xFD, 0xCB, d, 0b00001110#8]
  | .rrcR r => [0xCB, 0b00001#5 ++ r.code]
  | .slaMhl => [0xCB, 0b00100110#8]
  | .slaMix d => [0xDD, 0xCB, d, 0b00100110#8]
  | .slaMiy d => [0xFD, 0xCB, d, 0b00100110#8]
  | .slaR r => [0xCB, 0b00100#5 ++ r.code]
  | .sraMhl => [0xCB, 0b00101110#8]
  | .sraMix d => [0xDD, 0xCB, d, 0b00101110#8]
  | .sraMiy d => [0xFD, 0xCB, d, 0b00101110#8]
  | .sraR r => [0xCB, 0b00101#5 ++ r.code]
  | .srlMhl => [0xCB, 0b00111110#8]
  | .srlMix d => [0xDD, 0xCB, d, 0b00111110#8]
  | .srlMiy d => [0xFD, 0xCB, d, 0b00111110#8]
  | .srlR r => [0xCB, 0b00111#5 ++ r.code]
  | .altd j => 0x76 :: encode j
  | .ioe j => 0xDB :: encode j
  | .ioi j => 0xD3 :: encode j
  | .ldd => [0xED, 0xA8]
  | .lddr => [0xED, 0xB8]
  | .ldi => [0xED, 0xA0]
  | .ldir => [0xED, 0xB0]
  | .callMn mn => [0xCD, loByte mn, hiByte mn]
  | .djnz e => [0x10, e]
  | .jpHL => [0xE9]
  | .jpIX => [0xDD, 0xE9]
  | .jpIY => [0xFD, 0xE9]
  | .jpF f mn => [0b11#2 ++ f.code ++ 0b010#3, loByte mn, hiByte mn]
  | .jpMn mn => [0xC3, loByte mn, hiByte mn]
  | .jrCC cc e => [0b001#3 ++ cc.code ++ 0b000#3, e]
  | .jrE e => [0x18, e]
  | .lcall x mn => [0xCF, loByte mn, hiByte mn, x]
  | .ljp x mn => [0xC7, loByte mn, hiByte mn, x]
  | .lret => [0xED, 0x45]
  | .ret => [0xC9]
  | .retF f => [0b11#2 ++ f.code ++ 0b000#3]
  | .reti => [0xED, 0x4D]
  | .rst v => [0b11#2 ++ v.code ++ 0b111#3]
  | .ccf => [0x3F]
  | .ipset0 => [0xED, 0x46]
  | .ipset1 => [0xED, 0x56]
  | .ipset2 => [0xED, 0x4E]
  | .ipset3 => [0xED, 0x5E]
  | .ipres => [0xED, 0x5D]
  | .nop => [0x00]
  | .scf => [0x37]

/-- Byte number `k`, counted from the first, of a word of `n` bytes whose first byte is the most significant one,
and 0 beyond the last (30_encoding.md R72; log 26). -/
def tableByte (n w k : Nat) : Byte := if k < n then BitVec.ofNat 8 (w / 2 ^ (8 * (n - 1 - k))) else 0

/-- The six bytes the machine fetches for the table word `w` of `nbits` bits: its bytes in the order of the
instruction stream, then zeros. -/
def tableBytes (nbits w : Nat) : List Byte :=
  let n := nbits / 8
  [tableByte n w 0, tableByte n w 1, tableByte n w 2, tableByte n w 3, tableByte n w 4, tableByte n w 5]

/-- The instruction the decoder reads from a word of spec/opcode_table.json, whose `match` numbers have the first
byte most significant (30_encoding.md R72; log 26). -/
def decodeTableWord (nbits w : Nat) : Option Instr :=
  match decode (tableBytes nbits w) with
  | .ok (i, _) => some i
  | .error _ => none

end Sys2Proof
end

