-- ==== Sys2Proof/Machine/State.lean ====
section
/-!
DEFINITION. The state of the machine as plain data (spec/10_state.md R10 to R25), the reasons a step can stop, and
the state after reset (70_reset_and_hazards.md R430).
-/
namespace Sys2Proof.Machine

/-- The synchronous exceptions: there is none (60_exceptions.md R400), so this type has no constructor and no step
faults. -/
inductive Fault where
  deriving DecidableEq, Repr

/-- Why the model gives an instruction no meaning. -/
inductive Refusal where
  /-- The arm of `exec` is not written yet; raised by no arm of this model. Safe. -/
  | notModelled (mnemonic : String)
  /-- The bytes at PC are no instruction: the parameter `UNDEFINED_OPCODE` = refuse (30_encoding.md R69,
  92_eei_decisions.md D15, log 18). Raised by `step` only. Safe: the machine may go on where the model stops. -/
  | undefinedOpcode (e : DecodeError)
  deriving DecidableEq, Repr

/-- One of the two register sets of 10_state.md R13: A, F and the six general registers. -/
structure Bank where
  /-- The accumulator A. -/
  a : Byte
  /-- The flag register F. -/
  f : Byte
  /-- B, the high byte of BC. -/
  b : Byte
  /-- C, the low byte of BC. -/
  c : Byte
  /-- D, the high byte of DE. -/
  d : Byte
  /-- E, the low byte of DE. -/
  e : Byte
  /-- H, the high byte of HL. -/
  h : Byte
  /-- L, the low byte of HL. -/
  l : Byte
  deriving DecidableEq, Repr

/-- Memory: the bytes that hold a value, by physical address, addresses strictly rising (20_memory.md R40). -/
abbrev Memory := List Host.Cell

/-- The priority of an interrupt request: 1, 2 or 3 (60_exceptions.md R402). -/
inductive Priority where
  | p1 | p2 | p3
  deriving DecidableEq, Repr

/-- One interrupt request `(q, t)` that `IRQ` offers (60_exceptions.md R402). -/
structure IrqRequest where
  /-- `q`, the priority of the request. -/
  priority : Priority
  /-- `t`, the logical address of the handler. -/
  entry : Word
  deriving DecidableEq, Repr

/-- Where a platform puts the three translation registers in the internal I/O space, and the bytes they hold before
any write (93_implementation_defined.md G6; log 4). -/
structure SegMap where
  /-- The internal I/O address of SEGSIZE. -/
  segsizeAddr : Word
  /-- The internal I/O address of DATASEG. -/
  datasegAddr : Word
  /-- The internal I/O address of STACKSEG. -/
  stacksegAddr : Word
  /-- SEGSIZE before any write. -/
  segsize : Byte
  /-- DATASEG before any write. -/
  dataseg : Byte
  /-- STACKSEG before any write. -/
  stackseg : Byte
  deriving DecidableEq, Repr

/-- The parameter `Translate` as the harness chooses it (20_memory.md R47, 92_eei_decisions.md D1; log 3). -/
inductive Translation where
  /-- The parameter stays open: the constant `Config.translate`. -/
  | uninterpreted
  /-- The identity on 16 bits, as 92_eei_decisions.md D1 allows for a program that stays in one mapping. -/
  | identity
  /-- The segmented instance of 93_implementation_defined.md G6 (log 4). -/
  | segmented (m : SegMap)
  deriving DecidableEq, Repr

/-- The architectural state of 10_state.md R10 and R25, and the parameters and counters of the model's own
(INVENTORY.md). -/
structure State where
  /-- The main set A, F, B, C, D, E, H, L (10_state.md R10, R11, R15). -/
  main : Bank
  /-- The alternate set A', F', B', C', D', E', H', L' (10_state.md R13). -/
  alt : Bank
  /-- IX (10_state.md R14). -/
  ix : Word
  /-- IY (10_state.md R14). -/
  iy : Word
  /-- SP (10_state.md R19). -/
  sp : Word
  /-- PC: the address of the first byte, prefixes included, of the next instruction (10_state.md R18). -/
  pc : Word
  /-- XPC (10_state.md R20). -/
  xpc : Byte
  /-- IP: four 2-bit priorities, the current one in bits 1:0 (10_state.md R21). -/
  ip : Byte
  /-- IIR (10_state.md R22). -/
  iir : Byte
  /-- EIR (10_state.md R23). -/
  eir : Byte
  /-- Physical memory (20_memory.md R40). -/
  mem : Memory
  /-- The hidden bit `inhibit` (10_state.md R25, 60_exceptions.md R406). -/
  inhibit : Bool
  /-- The writes to the two I/O spaces, in program order (20_memory.md R48, 92_eei_decisions.md D3; log 6). -/
  ioWrites : List IoWrite
  /-- The model's own: how many bytes have been read from the I/O spaces (log 6). -/
  ioReads : Nat
  /-- The model's own: what `IRQ` offers at the coming boundaries, the next one first; when the list ends it offers
  nothing (60_exceptions.md R402, R405; log 7). -/
  irq : List (Option IrqRequest)
  /-- The model's own: the parameter `Translate` (20_memory.md R47; log 3). -/
  translation : Translation
  /-- The model's own: how many times the unused bits of F have been drawn (10_state.md R17; log 12). -/
  draws : Nat
  deriving DecidableEq, Repr

/-- A register set at reset: the source gives no value (70_reset_and_hazards.md R430); DESIGN CHOICE zero, log 9. -/
def Bank.reset : Bank := { a := 0, f := 0, b := 0, c := 0, d := 0, e := 0, h := 0, l := 0 }

/-- The machine right after reset: the defaults of 70_reset_and_hazards.md R430 for PC, XPC, IP, IIR, EIR and
`inhibit` (log 8), zero for every register it leaves unspecified (log 9), nothing in memory and no event. -/
def State.reset : State :=
  { main := Bank.reset
    alt := Bank.reset
    ix := 0
    iy := 0
    sp := 0
    pc := 0
    xpc := 0
    ip := 0xFF
    iir := 0
    eir := 0
    mem := []
    inhibit := false
    ioWrites := []
    ioReads := 0
    irq := []
    translation := .uninterpreted
    draws := 0 }

/-- What a meaning returns. -/
abbrev Result := Host.Outcome State Fault Refusal

/-- The prefixes of the instruction that runs (30_encoding.md R66): `alt`, `io`, and how many prefix bytes there
are. They are decoded with the instruction and are not state (10_state.md R25). -/
structure Ctx where
  /-- An ALTD prefix is present. -/
  alt : Bool
  /-- The I/O space an IOI or IOE prefix selects. -/
  io : Option IoSpace
  /-- The number of prefix bytes. -/
  plen : Nat
  deriving DecidableEq, Repr

end Sys2Proof.Machine
end

