-- ==== Sys2Proof/Machine/Flags.lean ====
section
/-!
DEFINITION. The decided parameters `F_LAYOUT` and `ADD_SP_D_SIGNED`, the flags and every flag computation of the spec
(10_state.md R15 to R17, 00_scope.md R6, R7, and the family files), over 8-bit and 16-bit operands at once: `w` is the
operand width.
-/
namespace Sys2Proof

/-- The parameter `F_LAYOUT`: the bit of F that holds S (10_state.md R17, 92 D5; PRESUMED, log 11). -/
def Config.sBit : Nat := 7

/-- The parameter `F_LAYOUT`: the bit of F that holds Z (10_state.md R17, 92 D5; PRESUMED, log 11). -/
def Config.zBit : Nat := 6

/-- The parameter `F_LAYOUT`: the bit of F that holds L/V (10_state.md R17, 92 D5; PRESUMED, log 11). -/
def Config.lvBit : Nat := 2

/-- The parameter `F_LAYOUT`: the bit of F that holds C (10_state.md R17, 92 D5; PRESUMED, log 11). -/
def Config.cBit : Nat := 0

/-- The bits of F that hold a flag under `F_LAYOUT` (10_state.md R17). -/
def Config.flagMask : Byte := 0b11000101

/-- The parameter `ADD_SP_D_SIGNED` (42_move_exchange_stack.md R176, 92 D16; log 14). -/
def Config.addSpDSigned : Bool := true

/-- The extended operand of `ADD SP,d` (42_move_exchange_stack.md R176). -/
def Config.spDisplacement (d : Byte) : Word := if Config.addSpDSigned then sext d else zext d

namespace Machine

/-- S of a flag register (10_state.md R15, R17). -/
def flagS (f : Byte) : Bool := f.getLsbD Config.sBit

/-- Z of a flag register (10_state.md R15, R17). -/
def flagZ (f : Byte) : Bool := f.getLsbD Config.zBit

/-- L/V of a flag register (10_state.md R15, R17). -/
def flagLV (f : Byte) : Bool := f.getLsbD Config.lvBit

/-- C of a flag register (10_state.md R15, R17). -/
def flagC (f : Byte) : Bool := f.getLsbD Config.cBit

/-- The flags an instruction writes: `none` is the cell `-` of the tables (00_scope.md R7). -/
structure FlagUpd where
  /-- The new S. -/
  s : Option Bool := none
  /-- The new Z. -/
  z : Option Bool := none
  /-- The new L/V. -/
  lv : Option Bool := none
  /-- The new C. -/
  c : Option Bool := none
  deriving DecidableEq, Repr

/-- Write bit `k` of a flag register, or leave it. -/
def putFlag (f : Byte) (k : Nat) : Option Bool → Byte
  | none => f
  | some true => f ||| (1#8 <<< k)
  | some false => f &&& ~~~(1#8 <<< k)

/-- `FD.S <- .., FD.Z <- ..` and so on: the flags that are not written, and the bits without a flag, keep their value
(00_scope.md R6, 10_state.md R16). -/
def FlagUpd.apply (u : FlagUpd) (f : Byte) : Byte :=
  putFlag (putFlag (putFlag (putFlag f Config.sBit u.s) Config.zBit u.z) Config.lvBit u.lv) Config.cBit u.c

/-! ## Results, carries and overflow (00_scope.md R6) -/

/-- `ADDN`: the result. -/
def sumRes {w : Nat} (a b : BitVec w) (cin : Bool) : BitVec w := BitVec.ofNat w (a.toNat + b.toNat + cin.toNat)

/-- `ADDN`: the carry. -/
def sumCarry {w : Nat} (a b : BitVec w) (cin : Bool) : Bool := decide (2 ^ w ≤ a.toNat + b.toNat + cin.toNat)

/-- `ADDN`: the signed overflow. -/
def sumOv {w : Nat} (a b : BitVec w) (cin : Bool) : Bool :=
  (a.msb == b.msb) && ((sumRes a b cin).msb != a.msb)

/-- `SUBN`: the result. -/
def diffRes {w : Nat} (a b : BitVec w) (cin : Bool) : BitVec w :=
  BitVec.ofInt w ((a.toNat : Int) - (b.toNat : Int) - (cin.toNat : Int))

/-- `SUBN`: the borrow, compared as unbounded non-negative integers. -/
def diffBorrow {w : Nat} (a b : BitVec w) (cin : Bool) : Bool := decide (a.toNat < b.toNat + cin.toNat)

/-- `SUBN`: the signed overflow. -/
def diffOv {w : Nat} (a b : BitVec w) (cin : Bool) : Bool :=
  (a.msb != b.msb) && ((diffRes a b cin).msb != a.msb)

/-- `S8`, `S16`: the most significant bit (00_scope.md R6). -/
def signBit {w : Nat} (v : BitVec w) : Bool := v.msb

/-- `Z8`, `Z16` (00_scope.md R6). -/
def isZero {w : Nat} (v : BitVec w) : Bool := decide (v = 0)

/-- `L8`, `L16`: one of the four most significant bits is 1 (00_scope.md R6, R7). -/
def logical {w : Nat} (v : BitVec w) : Bool := decide (v.extractLsb' (w - 4) 4 ≠ 0)

/-! ## The flag rows -/

/-- S and Z from the value: `LD A,EIR`, `LD A,IIR` (42_move_exchange_stack.md R152, R153). -/
def flagsSZ (v : Byte) : FlagUpd := { s := some (signBit v), z := some (isZero v) }

/-- `ADC`, `ADD` with all four flags (43_arith16.md R185, 44_arith8.md R213). -/
def flagsAdd {w : Nat} (a b : BitVec w) (cin : Bool) : FlagUpd :=
  { s := some (signBit (sumRes a b cin))
    z := some (isZero (sumRes a b cin))
    lv := some (sumOv a b cin)
    c := some (sumCarry a b cin) }

/-- `SBC`, `CP`, `NEG`: C is the borrow (43_arith16.md R185, 44_arith8.md R213, R214). -/
def flagsSub {w : Nat} (a b : BitVec w) (cin : Bool) : FlagUpd :=
  { s := some (signBit (diffRes a b cin))
    z := some (isZero (diffRes a b cin))
    lv := some (diffOv a b cin)
    c := some (diffBorrow a b cin) }

/-- C after `SUB` for a borrow `bw`: the parameter `SUB_CARRY_SENSE` (44_arith8.md R214, log 13). -/
def subCarry (sense : SubCarrySense) (bw : Bool) : Bool :=
  match sense with
  | .borrow => bw
  | .opposite => !bw

/-- The rows `L`: S, Z and L/V from the result, C given (44_arith8.md R213, 43_arith16.md R185). -/
def flagsLogic {w : Nat} (res : BitVec w) (cy : Bool) : FlagUpd :=
  { s := some (signBit res), z := some (isZero res), lv := some (logical res), c := some cy }

/-- `BOOL`: the flags match the result, which is 0 or 1 (43_arith16.md R193). -/
def flagsBool (v : Word) : FlagUpd := { s := some false, z := some (isZero v), lv := some false, c := some false }

/-- `BOOL`: 1 when the register is not 0, else 0 (43_arith16.md R193). -/
def boolWord (v : Word) : Word := if v = 0 then 0 else 1

/-- `INC`: S, Z, L/V; C is left (45_bit_incdec_fastA.md R267). -/
def flagsInc (v : Byte) : FlagUpd :=
  { s := some (signBit (sumRes v 1 false)), z := some (isZero (sumRes v 1 false)), lv := some (sumOv v 1 false) }

/-- `DEC`: S, Z, L/V; C is left (45_bit_incdec_fastA.md R267). -/
def flagsDec (v : Byte) : FlagUpd :=
  { s := some (signBit (diffRes v 1 false)), z := some (isZero (diffRes v 1 false)), lv := some (diffOv v 1 false) }

/-- `BIT`: Z is 1 when the tested bit is 0 (45_bit_incdec_fastA.md R255). -/
def flagsBit (b : BitVec 3) (v : Byte) : FlagUpd := { z := some (!v.getLsbD b.toNat) }

/-- `RES`: clear bit `b` (45_bit_incdec_fastA.md R259). -/
def resBit (b : BitVec 3) (v : Byte) : Byte := v &&& ~~~(1#8 <<< b.toNat)

/-- `SET`: set bit `b` (45_bit_incdec_fastA.md R263). -/
def setBit (b : BitVec 3) (v : Byte) : Byte := v ||| (1#8 <<< b.toNat)

/-! ## Shifts and rotates (46_shift_rotate.md R282, 43_arith16.md R206 to R210, 45_bit_incdec_fastA.md R278 to R281) -/

/-- The seven shift and rotate operations (46_shift_rotate.md R282). -/
inductive ShiftOp where
  | rl | rlc | rr | rrc | sla | sra | srl
  deriving DecidableEq, Repr

/-- The operation shifts left: towards the most significant bit (46_shift_rotate.md R282). -/
def ShiftOp.isLeft : ShiftOp → Bool
  | .rl => true | .rlc => true | .sla => true
  | .rr => false | .rrc => false | .sra => false | .srl => false

/-- The bit shifted out: the most significant bit of a left shift, bit 0 of a right shift
(46_shift_rotate.md R282). -/
def shiftOut {w : Nat} (op : ShiftOp) (v : BitVec w) : Bool := if op.isLeft then v.msb else v.getLsbD 0

/-- The bit shifted in (46_shift_rotate.md R282). -/
def shiftIn {w : Nat} (op : ShiftOp) (v : BitVec w) (cin : Bool) : Bool :=
  match op with
  | .rl => cin
  | .rr => cin
  | .rlc => v.msb
  | .rrc => v.getLsbD 0
  | .sla => false
  | .srl => false
  | .sra => v.msb

/-- The result of a shift or rotate (46_shift_rotate.md R282). -/
def shiftRes {w : Nat} (op : ShiftOp) (v : BitVec w) (cin : Bool) : BitVec w :=
  let bit := BitVec.ofNat w (shiftIn op v cin).toNat
  if op.isLeft then (v <<< 1) ||| bit else (v >>> 1) ||| (bit <<< (w - 1))

/-- The flags of a shift or rotate with the row `* * L *` (46_shift_rotate.md R282, 43_arith16.md R185). -/
def flagsShift {w : Nat} (op : ShiftOp) (v : BitVec w) (cin : Bool) : FlagUpd :=
  flagsLogic (shiftRes op v cin) (shiftOut op v)

/-- `MUL`: the signed 32-bit product (43_arith16.md R202). -/
def mulSigned (a b : Word) : BitVec 32 := BitVec.ofInt 32 (a.toInt * b.toInt)

/-- `IPSET p` and interrupt entry: shift IP left two bits and put `p` into bits 1:0 (10_state.md R21,
49_misc_privileged.md R338, 60_exceptions.md R403). -/
def ipPush (ip : Byte) (p : BitVec 2) : Byte := ip.extractLsb' 0 6 ++ p

/-- `IPRES`: rotate IP right two bits (10_state.md R21, 49_misc_privileged.md R342). -/
def ipPop (ip : Byte) : Byte := ip.extractLsb' 0 2 ++ ip.extractLsb' 2 6

/-- The byte `PUSH AF` stores for F: its four flags, and four free bits (10_state.md R17, 93 U3, log 12). -/
def pushedFlags (f : Byte) (draw : Byte) : Byte := (f &&& Config.flagMask) ||| (draw &&& ~~~Config.flagMask)

end Machine

end Sys2Proof
end

