-- ==== Sys2Proof/Machine/Memory.lean ====
section
/-!
DEFINITION. Physical memory as a canonical list (spec/20_memory.md R40, R41) and the address translation `Translate`
(R47, 92_eei_decisions.md D1). An address that is not listed has no value of its own: reading it gives the free value
`Config.unwrittenByte` (70_reset_and_hazards.md R430, log 10).
-/
namespace Sys2Proof.Machine

/-- The byte listed at a physical address, if one is. -/
def Memory.get? : Memory → Nat → Option Byte
  | [], _ => none
  | (k, v) :: m, a => if k = a then some v else Memory.get? m a

/-- List a byte at a physical address, in place of the one that is there. -/
def Memory.write : Memory → Nat → Byte → Memory
  | [], a, v => [(a, v)]
  | (k, w) :: m, a, v =>
    if a < k then (a, v) :: (k, w) :: m
    else if a = k then (a, v) :: m
    else (k, w) :: Memory.write m a v

/-- The canonical form: addresses strictly rising and below 2^20. No entry can equal what an unlisted address holds,
since that is no value at all. -/
def Memory.wf : Memory → Bool
  | [] => true
  | [(k, _)] => decide (k < 2 ^ 20)
  | (k, _) :: (k', v') :: m => decide (k < k') && Memory.wf ((k', v') :: m)

/-- What a read of physical memory gives: the byte listed, or the free value of an unwritten byte. -/
def Memory.read (m : Memory) (p : Phys) : Byte :=
  match Memory.get? m p.toNat with
  | some v => v
  | none => Config.unwrittenByte p

/-- The byte that the last write to internal I/O address `a` stored, or `dflt` when there was none
(93_implementation_defined.md G6). -/
def lastWrite (ws : List (Word × Byte)) (a : Word) (dflt : Byte) : Byte :=
  ws.foldl (fun v w => if w.1 = a then w.2 else v) dflt

/-- Move a 16-bit address up by `base * 0x1000` in the 20-bit space, modulo 2^20 (93_implementation_defined.md G6). -/
def relocate (a : Word) (base : Byte) : Phys := a.setWidth 20 + base.setWidth 20 * 0x1000

/-- The segmented translation of 93_implementation_defined.md G6: the window from 0xE000 moves by XPC, the stack
segment by STACKSEG, the data segment by DATASEG, and the root segment stays (log 4). -/
def SegMap.apply (m : SegMap) (xpc : Byte) (ws : List (Word × Byte)) (a : Word) : Phys :=
  let segsize := lastWrite ws m.segsizeAddr m.segsize
  let page := a.toNat / 0x1000
  if 0xE ≤ page then relocate a xpc
  else if segsize.toNat / 16 ≤ page then relocate a (lastWrite ws m.stacksegAddr m.stackseg)
  else if segsize.toNat % 16 ≤ page then relocate a (lastWrite ws m.datasegAddr m.dataseg)
  else a.setWidth 20

/-- `Translate`: total, a function of XPC, of the writes to the internal I/O space and of the 16-bit address
(20_memory.md R47, 92_eei_decisions.md D1, D3). -/
def Translation.apply (t : Translation) (xpc : Byte) (ws : List (Word × Byte)) (a : Word) : Phys :=
  match t with
  | .uninterpreted => Config.translate xpc ws a
  | .identity => a.setWidth 20
  | .segmented m => m.apply xpc ws a

/-- The writes made to the internal I/O space, in program order: what the translation registers can hold
(20_memory.md R47). -/
def internalWrites (ws : List IoWrite) : List (Word × Byte) :=
  ws.filterMap fun w => if w.space = .int then some (w.addr, w.val) else none

end Sys2Proof.Machine
end

