-- ==== Sys2Proof/Machine/Ops.lean ====
section
/-!
DEFINITION. The named operations over registers, memory, the I/O spaces and the stack (spec/00_scope.md R6,
10_state.md, 20_memory.md), taking an interrupt (60_exceptions.md R403, R405) and the returns from one (R408).
-/
namespace Sys2Proof.Machine

/-! ## A register set (10_state.md R11, R12) -/

/-- Read a byte register of a set (10_state.md R11). -/
def Bank.get (k : Bank) : R8 → Byte
  | .b => k.b | .c => k.c | .d => k.d | .e => k.e | .h => k.h | .l => k.l | .a => k.a

/-- Write a byte register of a set (10_state.md R11). -/
def Bank.set (k : Bank) (r : R8) (v : Byte) : Bank :=
  match r with
  | .b => { k with b := v }
  | .c => { k with c := v }
  | .d => { k with d := v }
  | .e => { k with e := v }
  | .h => { k with h := v }
  | .l => { k with l := v }
  | .a => { k with a := v }

/-- BC = `{B, C}` (10_state.md R12). -/
def Bank.bc (k : Bank) : Word := mkWord k.b k.c

/-- DE = `{D, E}` (10_state.md R12). -/
def Bank.de (k : Bank) : Word := mkWord k.d k.e

/-- HL = `{H, L}` (10_state.md R12). -/
def Bank.hl (k : Bank) : Word := mkWord k.h k.l

/-- AF = `{A, F}` (10_state.md R12). -/
def Bank.af (k : Bank) : Word := mkWord k.a k.f

/-- Write BC: both halves (10_state.md R12). -/
def Bank.setBC (k : Bank) (v : Word) : Bank := { k with b := hiByte v, c := loByte v }

/-- Write DE: both halves (10_state.md R12). -/
def Bank.setDE (k : Bank) (v : Word) : Bank := { k with d := hiByte v, e := loByte v }

/-- Write HL: both halves (10_state.md R12). -/
def Bank.setHL (k : Bank) (v : Word) : Bank := { k with h := hiByte v, l := loByte v }

/-- Write AF: both halves (10_state.md R12). -/
def Bank.setAF (k : Bank) (v : Word) : Bank := { k with a := hiByte v, f := loByte v }

/-- The flags `FD.X <- b` of a set (00_scope.md R6). -/
def Bank.setFlags (k : Bank) (u : FlagUpd) : Bank := { k with f := u.apply k.f }

/-! ## One update per field of the state -/

/-- Change the set that `D(..)` and `FD` name: the main one, or the alternate one under ALTD (00_scope.md R6). -/
def State.updBank (s : State) (alt : Bool) (g : Bank → Bank) : State :=
  { s with main := if alt then s.main else g s.main, alt := if alt then g s.alt else s.alt }

/-- Write IX. -/
def State.setIX (s : State) (v : Word) : State := { s with ix := v }

/-- Write IY. -/
def State.setIY (s : State) (v : Word) : State := { s with iy := v }

/-- Write SP. -/
def State.setSP (s : State) (v : Word) : State := { s with sp := v }

/-- Write XPC: all 8 bits (10_state.md R20). -/
def State.setXPC (s : State) (v : Byte) : State := { s with xpc := v }

/-- Write IP: all 8 bits (10_state.md R21). -/
def State.setIP (s : State) (v : Byte) : State := { s with ip := v }

/-- Write IIR (10_state.md R22). -/
def State.setIIR (s : State) (v : Byte) : State := { s with iir := v }

/-- Write EIR (10_state.md R23). -/
def State.setEIR (s : State) (v : Byte) : State := { s with eir := v }

/-- Replace memory. -/
def State.setMem (s : State) (m : Memory) : State := { s with mem := m }

/-- Record a write to an I/O space, after those before it (92_eei_decisions.md D3). -/
def State.logIo (s : State) (w : IoWrite) : State := { s with ioWrites := s.ioWrites ++ [w] }

/-- Count `n` bytes read from an I/O space (92_eei_decisions.md D3, log 6). -/
def State.countReads (s : State) (n : Nat) : State := { s with ioReads := s.ioReads + n }

/-- Count one draw of the unused bits of F (log 12). -/
def State.countDraw (s : State) : State := { s with draws := s.draws + 1 }

/-- End an instruction: PC, and `inhibit` as 60_exceptions.md R406 sets it. -/
def State.finish (s : State) (pc : Word) (privileged : Bool) : State := { s with pc := pc, inhibit := privileged }

/-- What `IRQ` still has to offer after a boundary (60_exceptions.md R405). -/
def State.setIrq (s : State) (q : List (Option IrqRequest)) : State := { s with irq := q }

/-! ## Registers -/

/-- The main BC: every source operand is in the main set (10_state.md R13). -/
def State.bc (s : State) : Word := s.main.bc

/-- The main DE. -/
def State.de (s : State) : Word := s.main.de

/-- The main HL. -/
def State.hl (s : State) : Word := s.main.hl

/-- The carry input, always F.C (10_state.md R16). -/
def State.carry (s : State) : Bool := flagC s.main.f

/-- `D(r) <- v` (00_scope.md R6). -/
def State.setR8 (s : State) (alt : Bool) (r : R8) (v : Byte) : State := s.updBank alt fun k => k.set r v

/-- The value of `ss` (00_scope.md R8). -/
def State.getSS (s : State) : SS → Word
  | .bc => s.bc | .de => s.de | .hl => s.hl | .sp => s.sp

/-- The value of `xx` (00_scope.md R8). -/
def State.getXX (s : State) : XX → Word
  | .bc => s.bc | .de => s.de | .ix => s.ix | .sp => s.sp

/-- The value of `yy` (00_scope.md R8). -/
def State.getYY (s : State) : YY → Word
  | .bc => s.bc | .de => s.de | .iy => s.iy | .sp => s.sp

/-- `D(dd) <- v`; ALTD does not redirect SP (00_scope.md R6, 10_state.md R14). -/
def State.setSS (s : State) (alt : Bool) (dd : SS) (v : Word) : State :=
  match dd with
  | .bc => s.updBank alt fun k => k.setBC v
  | .de => s.updBank alt fun k => k.setDE v
  | .hl => s.updBank alt fun k => k.setHL v
  | .sp => s.setSP v

/-- `D(zz) <- v` (00_scope.md R6, 42_move_exchange_stack.md R180). -/
def State.setZZ (s : State) (alt : Bool) (zz : ZZ) (v : Word) : State :=
  match zz with
  | .bc => s.updBank alt fun k => k.setBC v
  | .de => s.updBank alt fun k => k.setDE v
  | .hl => s.updBank alt fun k => k.setHL v
  | .af => s.updBank alt fun k => k.setAF v

/-- `dd' <- v`: always the alternate set (42_move_exchange_stack.md R165, R166). -/
def State.setDDa (s : State) (dd : DDa) (v : Word) : State :=
  match dd with
  | .bc => s.updBank true fun k => k.setBC v
  | .de => s.updBank true fun k => k.setDE v
  | .hl => s.updBank true fun k => k.setHL v

/-- Write flags to `FD`: F, or F' under ALTD (10_state.md R16). -/
def State.setFlags (s : State) (alt : Bool) (u : FlagUpd) : State := s.updBank alt fun k => k.setFlags u

/-- `EXX`: exchange BC, DE, HL with BC', DE', HL' (42_move_exchange_stack.md R175). -/
def State.exchangeGeneral (s : State) : State :=
  (s.updBank false fun k => ((k.setBC s.alt.bc).setDE s.alt.de).setHL s.alt.hl).updBank true fun k =>
    ((k.setBC s.main.bc).setDE s.main.de).setHL s.main.hl

/-- `EX DE',HL`: DE' and the main HL are exchanged, or DE' and HL' after an ALTD (42_move_exchange_stack.md R171,
R172). -/
def State.exchangeDEa (s : State) (alt : Bool) : State :=
  if alt then (s.setSS true .de s.alt.hl).setSS true .hl s.alt.de
  else (s.setSS true .de s.main.hl).setSS false .hl s.alt.de

/-- `EX DE,HL`: DE and the main HL are exchanged, or DE and HL' after an ALTD (42_move_exchange_stack.md R173,
R174). -/
def State.exchangeDE (s : State) (alt : Bool) : State :=
  if alt then (s.setSS false .de s.alt.hl).setSS true .hl s.main.de
  else (s.setSS false .de s.main.hl).setSS false .hl s.main.de

/-! ## Memory (20_memory.md R41, R44, R46) -/

/-- The physical address of a logical address now (20_memory.md R47, R54). -/
def State.phys (s : State) (a : Word) : Phys := s.translation.apply s.xpc (internalWrites s.ioWrites) a

/-- `PhysRead(p, 1)` (00_scope.md R6). -/
def State.physRead (s : State) (p : Phys) : Byte := Memory.read s.mem p

/-- `PhysWrite(p, 1, v)` (00_scope.md R6). -/
def State.physWrite (s : State) (p : Phys) (v : Byte) : State := s.setMem (Memory.write s.mem p.toNat v)

/-- `MemRead(a, 1)`, and `Fetch(a)` (20_memory.md R41, R44). -/
def State.mem8 (s : State) (a : Word) : Byte := s.physRead (s.phys a)

/-- `MemRead(a, 2)`: little-endian; the second address wraps modulo 65536 (20_memory.md R41). -/
def State.mem16 (s : State) (a : Word) : Word := mkWord (s.mem8 (a + 1)) (s.mem8 a)

/-- `MemWrite(a, 1, v)` (20_memory.md R41). -/
def State.wrMem8 (s : State) (a : Word) (v : Byte) : State := s.physWrite (s.phys a) v

/-- `MemWrite(a, 2, v)`: the low byte first (20_memory.md R41, log 29). -/
def State.wrMem16 (s : State) (a : Word) (v : Word) : State := (s.wrMem8 a (loByte v)).wrMem8 (a + 1) (hiByte v)

/-- `p0 = {A[3:0], x}` of an `LDP` (20_memory.md R46). -/
def State.ldpAddr (s : State) (x : Word) : Phys := s.main.a.extractLsb' 0 4 ++ x

/-- An `LDP` load: the second byte's address wraps inside the 64K page (20_memory.md R46). -/
def State.ldpRead (s : State) (x : Word) : Word :=
  mkWord (s.physRead (s.ldpAddr (x + 1))) (s.physRead (s.ldpAddr x))

/-- An `LDP` store: the low byte first; the second byte's address wraps inside the 64K page (20_memory.md R46). -/
def State.ldpWrite (s : State) (x v : Word) : State :=
  (s.physWrite (s.ldpAddr x) (loByte v)).physWrite (s.ldpAddr (x + 1)) (hiByte v)

/-! ## The stack (10_state.md R19) -/

/-- Push one byte (42_move_exchange_stack.md R181). -/
def State.push8 (s : State) (v : Byte) : State := (s.wrMem8 (s.sp - 1) v).setSP (s.sp - 1)

/-- Push a word: the high byte at SP-1 first, then the low byte at SP-2 (10_state.md R19, 48_control.md R321). -/
def State.push16 (s : State) (v : Word) : State :=
  ((s.wrMem8 (s.sp - 1) (hiByte v)).wrMem8 (s.sp - 2) (loByte v)).setSP (s.sp - 2)

/-- The word `PUSH zz` stores; the unused bits of F are drawn (42_move_exchange_stack.md R184, log 12). -/
def State.pushedZZ (s : State) : ZZ → Word
  | .bc => s.bc
  | .de => s.de
  | .hl => s.hl
  | .af => mkWord s.main.a (pushedFlags s.main.f (Config.unusedFBits s.draws))

/-- `PUSH AF` has used one draw (log 12). -/
def State.afterPush (s : State) : ZZ → State
  | .bc => s
  | .de => s
  | .hl => s
  | .af => s.countDraw

/-! ## The end of an instruction (10_state.md R18, 60_exceptions.md R406) -/

/-- `pcn = (pc + len) mod 65536`, `len` counting the prefixes (00_scope.md R6, 30_encoding.md R68). -/
def State.pcn (s : State) (c : Ctx) (len : Nat) : Word := s.pc + BitVec.ofNat 16 (c.plen + len)

/-- `pc <- pcn`, not privileged. -/
def State.advance (s : State) (c : Ctx) (len : Nat) : State := s.finish (s.pcn c len) false

/-- `pc <- pcn`, privileged: no interrupt before the next instruction (60_exceptions.md R410). -/
def State.advancePriv (s : State) (c : Ctx) (len : Nat) : State := s.finish (s.pcn c len) true

/-- `pc <- t`, not privileged. -/
def State.jump (s : State) (t : Word) : State := s.finish t false

/-- `pc <- t`, privileged (`RETI`, 48_control.md R335). -/
def State.jumpPriv (s : State) (t : Word) : State := s.finish t true

/-- `if take then pc <- t else pc <- pcn` (48_control.md R322, R326, R328). -/
def State.branch (s : State) (c : Ctx) (len : Nat) (take : Bool) (t : Word) : State :=
  if take then s.jump t else s.advance c len

/-- `RET`: pop the return address (48_control.md R333); also the last act of a return from interrupt by `IPRES` or
`POP IP` (60_exceptions.md R408). -/
def State.ret (s : State) : State := (s.setSP (s.sp + 2)).jump (s.mem16 s.sp)

/-- `RET f`: return when the condition holds (48_control.md R334). -/
def State.retIf (s : State) (c : Ctx) (len : Nat) (take : Bool) : State := if take then s.ret else s.advance c len

/-- The restart target `{IIR, 0, vvv, 0000}` (48_control.md R336, log 15). -/
def State.rstTarget (s : State) (v : Rst) : Word := mkWord s.iir (0#1 ++ v.code ++ 0#4)

/-! ## Interrupts (60_exceptions.md R402 to R408) -/

/-- The two bits of a request's priority (60_exceptions.md R402). -/
def Priority.bits : Priority → BitVec 2
  | .p1 => 1 | .p2 => 2 | .p3 => 3

/-- The current priority, IP[1:0] (10_state.md R21). -/
def State.currentPriority (s : State) : BitVec 2 := s.ip.extractLsb' 0 2

/-- Taking an interrupt: the address of the next instruction is pushed (high byte at SP-1, low byte at SP-2), IP
shifts left with the priority of the request in IP[1:0], PC goes to the handler and `inhibit` is cleared; nothing
else changes (60_exceptions.md R403, 92_eei_decisions.md D19, log 7). -/
def State.enterInterrupt (s : State) (q : IrqRequest) : State :=
  ((s.push16 s.pc).setIP (ipPush s.ip q.priority.bits)).finish q.entry false

/-- The acceptance test: `inhibit` = 0 and the priority of the request above IP[1:0] (60_exceptions.md R405,
92_eei_decisions.md D19, log 7). -/
def State.accepts (s : State) (q : IrqRequest) : Bool :=
  !s.inhibit && decide (s.currentPriority < q.priority.bits)

/-- The boundary after an instruction: `IRQ` offers at most one request, which is taken or not
(60_exceptions.md R405, 92_eei_decisions.md D26). -/
def State.boundary (s : State) : State :=
  match s.irq with
  | [] => s
  | none :: rest => s.setIrq rest
  | some q :: rest => if s.accepts q then (s.setIrq rest).enterInterrupt q else s.setIrq rest

end Sys2Proof.Machine
end

