-- ==== Sys2Proof/Machine/Operands.lean ====
section
/-!
DEFINITION. The operand forms (spec/20_memory.md R45, R48; 44_arith8.md R212; 46_shift_rotate.md R282), the
conditions (48_control.md R320) and the steps that several rows share.
-/
namespace Sys2Proof.Machine

/-- No prefix (30_encoding.md R66). -/
def Ctx.bare : Ctx := { alt := false, io := none, plen := 0 }

/-- After an ALTD prefix (47_prefix_block.md R311). -/
def Ctx.withAlt (c : Ctx) : Ctx := { c with alt := true, plen := c.plen + 1 }

/-- After an IOI or IOE prefix (47_prefix_block.md R312, R313). -/
def Ctx.withIo (c : Ctx) (sp : IoSpace) : Ctx := { c with io := some sp, plen := c.plen + 1 }

/-! ## Effective addresses (20_memory.md R45) -/

/-- `(IX+d)`: the displacement is signed, the sum wraps. -/
def State.eaIX (s : State) (d : Byte) : Word := s.ix + sext d

/-- `(IY+d)`: the displacement is signed, the sum wraps. -/
def State.eaIY (s : State) (d : Byte) : Word := s.iy + sext d

/-- `(HL+d)`: the displacement is signed, the sum wraps. -/
def State.eaHL (s : State) (d : Byte) : Word := s.hl + sext d

/-- `(SP+n)`: the offset is unsigned, the sum wraps. -/
def State.eaSP (s : State) (n : Byte) : Word := s.sp + zext n

/-! ## Operands that an I/O prefix moves (00_scope.md R6, 20_memory.md R48) -/

/-- `RdS(a, 1)`: the value; an I/O read is the next free value of the space (92_eei_decisions.md D3, log 6). -/
def State.rdS8 (s : State) (c : Ctx) (a : Word) : Byte :=
  match c.io with
  | none => s.mem8 a
  | some sp => Config.ioRead sp a s.ioWrites s.ioReads

/-- `RdS(a, 2)`: the value; in an I/O space the low byte is read first (20_memory.md R48, log 29). -/
def State.rdS16 (s : State) (c : Ctx) (a : Word) : Word :=
  match c.io with
  | none => s.mem16 a
  | some sp =>
    mkWord (Config.ioRead sp (a + 1) s.ioWrites (s.ioReads + 1)) (Config.ioRead sp a s.ioWrites s.ioReads)

/-- The state after a read of `n` bytes with `RdS`: a memory read leaves no trace (20_memory.md R43). -/
def State.afterRead (s : State) (c : Ctx) (n : Nat) : State :=
  match c.io with
  | none => s
  | some _ => s.countReads n

/-- `WrD(a, 1, v)` (00_scope.md R6). -/
def State.wrD8 (s : State) (c : Ctx) (a : Word) (v : Byte) : State :=
  match c.io with
  | none => s.wrMem8 a v
  | some sp => s.logIo { space := sp, addr := a, val := v }

/-- `WrD(a, 2, v)`: the low byte first (00_scope.md R6, 20_memory.md R41, R48). -/
def State.wrD16 (s : State) (c : Ctx) (a : Word) (v : Word) : State :=
  (s.wrD8 c a (loByte v)).wrD8 c (a + 1) (hiByte v)

/-! ## Loads with a source that an I/O prefix moves -/

/-- `D(r) <- RdS(a, 1)` (40_load_immediate_direct.md R105, 41_load_indexed.md R120). -/
def State.loadR8 (s : State) (c : Ctx) (r : R8) (a : Word) : State := (s.afterRead c 1).setR8 c.alt r (s.rdS8 c a)

/-- `D(dd) <- RdS(a, 2)` (40_load_immediate_direct.md R110, R113). -/
def State.loadSS (s : State) (c : Ctx) (dd : SS) (a : Word) : State := (s.afterRead c 2).setSS c.alt dd (s.rdS16 c a)

/-- `IX <- RdS(a, 2)` (40_load_immediate_direct.md R111). -/
def State.loadIX (s : State) (c : Ctx) (a : Word) : State := (s.afterRead c 2).setIX (s.rdS16 c a)

/-- `IY <- RdS(a, 2)` (40_load_immediate_direct.md R112). -/
def State.loadIY (s : State) (c : Ctx) (a : Word) : State := (s.afterRead c 2).setIY (s.rdS16 c a)

/-! ## The eight 8-bit operations (44_arith8.md R212 to R214) -/

/-- The operations selected by bits 5:3 (44_arith8.md R212). -/
inductive AluOp where
  | add | adc | sub | sbc | conj | xor | disj | cp
  deriving DecidableEq, Repr

/-- The result of an 8-bit operation on A and `x` (44_arith8.md R215 to R254). -/
def aluRes (op : AluOp) (a x : Byte) (cin : Bool) : Byte :=
  match op with
  | .add => sumRes a x false
  | .adc => sumRes a x cin
  | .sub => diffRes a x false
  | .sbc => diffRes a x cin
  | .conj => a &&& x
  | .xor => a ^^^ x
  | .disj => a ||| x
  | .cp => diffRes a x false

/-- The flags of an 8-bit operation on A and `x` (44_arith8.md R213, R214). -/
def aluFlags (op : AluOp) (a x : Byte) (cin : Bool) : FlagUpd :=
  match op with
  | .add => flagsAdd a x false
  | .adc => flagsAdd a x cin
  | .sub => { flagsSub a x false with c := some (subCarry Config.subCarrySense (diffBorrow a x false)) }
  | .sbc => flagsSub a x cin
  | .conj => flagsLogic (a &&& x) false
  | .xor => flagsLogic (a ^^^ x) false
  | .disj => flagsLogic (a ||| x) false
  | .cp => flagsSub a x false

/-- `CP` writes no register; the others write A (44_arith8.md R212). -/
def AluOp.writesA : AluOp → Bool
  | .cp => false
  | .add => true | .adc => true | .sub => true | .sbc => true | .conj => true | .xor => true | .disj => true

/-- An 8-bit operation with second operand `x`: the result to `D(A)`, the flags to `FD` (44_arith8.md R212). -/
def State.alu (s : State) (c : Ctx) (op : AluOp) (x : Byte) : State :=
  (if op.writesA then s.setR8 c.alt .a (aluRes op s.main.a x s.carry) else s).setFlags c.alt
    (aluFlags op s.main.a x s.carry)

/-- An 8-bit operation whose second operand is `RdS(a, 1)` (44_arith8.md R212). -/
def State.aluMem (s : State) (c : Ctx) (op : AluOp) (a : Word) : State := (s.afterRead c 1).alu c op (s.rdS8 c a)

/-! ## Read-modify-write of one byte (20_memory.md R43, R48) -/

/-- `v = RdS(a, 1); WrD(a, 1, g v)` (45_bit_incdec_fastA.md R259, R263). -/
def State.rmw (s : State) (c : Ctx) (a : Word) (g : Byte → Byte) : State :=
  (s.afterRead c 1).wrD8 c a (g (s.rdS8 c a))

/-- `BIT b` of a memory operand: only Z (45_bit_incdec_fastA.md R255). -/
def State.bitMem (s : State) (c : Ctx) (b : BitVec 3) (a : Word) : State :=
  (s.afterRead c 1).setFlags c.alt (flagsBit b (s.rdS8 c a))

/-- `INC` of a memory operand (45_bit_incdec_fastA.md R272). -/
def State.incMem (s : State) (c : Ctx) (a : Word) : State :=
  (s.rmw c a fun v => sumRes v 1 false).setFlags c.alt (flagsInc (s.rdS8 c a))

/-- `DEC` of a memory operand (45_bit_incdec_fastA.md R268). -/
def State.decMem (s : State) (c : Ctx) (a : Word) : State :=
  (s.rmw c a fun v => diffRes v 1 false).setFlags c.alt (flagsDec (s.rdS8 c a))

/-- A shift or rotate of a memory operand; the carry input is F.C (46_shift_rotate.md R282, R283). -/
def State.shiftMem (s : State) (c : Ctx) (op : ShiftOp) (a : Word) : State :=
  (s.rmw c a fun v => shiftRes op v s.carry).setFlags c.alt (flagsShift op (s.rdS8 c a) s.carry)

/-! ## One step of a block move (47_prefix_block.md R314, R315) -/

/-- The direction of a block move: `dir` = +1 or -1 (47_prefix_block.md R314). -/
inductive Dir where
  | up | down
  deriving DecidableEq, Repr

/-- The address after `a` in a block move, modulo 65536 (47_prefix_block.md R314). -/
def Dir.next (dir : Dir) (a : Word) : Word :=
  match dir with
  | .up => a + 1
  | .down => a - 1

/-- `STEP(dir)`: the byte is read from memory at HL and written with `WrD` at DE; BC counts down, DE and HL move by
`dir`; L/V of F is 1 exactly when BC becomes 0. Main registers and F, under ALTD too (log 21). -/
def State.moveStep (s : State) (c : Ctx) (dir : Dir) : State :=
  ((((s.wrD8 c s.de (s.mem8 s.hl)).setSS false .bc (s.bc - 1)).setSS false .de (dir.next s.de)).setSS false .hl
    (dir.next s.hl)).setFlags false { lv := some (isZero (s.bc - 1)) }

/-- After a step of `LDIR`, `LDDR`: with BC not 0 the same instruction, from its first prefix, is next again
(47_prefix_block.md R315, log 21). -/
def State.repeatOrAdvance (s : State) (c : Ctx) (len : Nat) : State :=
  if s.bc = 0 then s.advance c len else s.jump s.pc

/-! ## Conditions (48_control.md R320) -/

/-- A condition `f`, on the main F, under ALTD too. -/
def State.condF (s : State) : CondF → Bool
  | .nz => !flagZ s.main.f
  | .z => flagZ s.main.f
  | .nc => !flagC s.main.f
  | .c => flagC s.main.f
  | .lz => !flagLV s.main.f
  | .lo => flagLV s.main.f
  | .p => !flagS s.main.f
  | .m => flagS s.main.f

/-- A condition `cc`, on the main F, under ALTD too. -/
def State.condCC (s : State) : CondCC → Bool
  | .nz => !flagZ s.main.f
  | .z => flagZ s.main.f
  | .nc => !flagC s.main.f
  | .c => flagC s.main.f

end Sys2Proof.Machine

namespace Sys2Proof

/-- The prefix set as the instruction behind it sees it (30_encoding.md R66). -/
def Pfx.ctx (p : Pfx) : Machine.Ctx := { alt := p.hasAlt, io := p.io, plen := p.bytes.length }

end Sys2Proof
end

