-- ==== Sys2Proof/Machine/Arith16.lean ====
section
/-!
DEFINITION. 16-bit arithmetic and logical operations (spec/43_arith16.md).
For each row: its effect under a prefix set `c` (30_encoding.md R66), and the meaning of the bare instruction.
-/
namespace Sys2Proof.Machine

/-- `ADC HL,ss` (43_arith16.md R186). -/
def effAdcHLss (c : Ctx) (ss : SS) (s : State) : State :=
  ((s.setSS c.alt .hl (sumRes s.hl (s.getSS ss) s.carry)).setFlags c.alt
    (flagsAdd s.hl (s.getSS ss) s.carry)).advance c 2

/-- `ADC HL,ss` without a prefix (R186). -/
def execAdcHLss (ss : SS) (s : State) : Result := .next (effAdcHLss Ctx.bare ss s)

/-- `ADD HL,ss` (43_arith16.md R187). -/
def effAddHLss (c : Ctx) (ss : SS) (s : State) : State :=
  ((s.setSS c.alt .hl (sumRes s.hl (s.getSS ss) false)).setFlags c.alt
    { c := some (sumCarry s.hl (s.getSS ss) false) }).advance c 1

/-- `ADD HL,ss` without a prefix (R187). -/
def execAddHLss (ss : SS) (s : State) : Result := .next (effAddHLss Ctx.bare ss s)

/-- `ADD IX,xx` (43_arith16.md R188). -/
def effAddIXxx (c : Ctx) (xx : XX) (s : State) : State :=
  ((s.setIX (sumRes s.ix (s.getXX xx) false)).setFlags c.alt
    { c := some (sumCarry s.ix (s.getXX xx) false) }).advance c 2

/-- `ADD IX,xx` without a prefix (R188). -/
def execAddIXxx (xx : XX) (s : State) : Result := .next (effAddIXxx Ctx.bare xx s)

/-- `ADD IY,yy` (43_arith16.md R189). -/
def effAddIYyy (c : Ctx) (yy : YY) (s : State) : State :=
  ((s.setIY (sumRes s.iy (s.getYY yy) false)).setFlags c.alt
    { c := some (sumCarry s.iy (s.getYY yy) false) }).advance c 2

/-- `ADD IY,yy` without a prefix (R189). -/
def execAddIYyy (yy : YY) (s : State) : Result := .next (effAddIYyy Ctx.bare yy s)

/-- `AND HL,DE` (43_arith16.md R190). -/
def effAndHLDE (c : Ctx) (s : State) : State :=
  ((s.setSS c.alt .hl (s.hl &&& s.de)).setFlags c.alt (flagsLogic (s.hl &&& s.de) false)).advance c 1

/-- `AND HL,DE` without a prefix (R190). -/
def execAndHLDE (s : State) : Result := .next (effAndHLDE Ctx.bare s)

/-- `AND IX,DE` (43_arith16.md R191). -/
def effAndIXDE (c : Ctx) (s : State) : State :=
  ((s.setIX (s.ix &&& s.de)).setFlags c.alt (flagsLogic (s.ix &&& s.de) false)).advance c 2

/-- `AND IX,DE` without a prefix (R191). -/
def execAndIXDE (s : State) : Result := .next (effAndIXDE Ctx.bare s)

/-- `AND IY,DE` (43_arith16.md R192). -/
def effAndIYDE (c : Ctx) (s : State) : State :=
  ((s.setIY (s.iy &&& s.de)).setFlags c.alt (flagsLogic (s.iy &&& s.de) false)).advance c 2

/-- `AND IY,DE` without a prefix (R192). -/
def execAndIYDE (s : State) : Result := .next (effAndIYDE Ctx.bare s)

/-- `BOOL HL` (43_arith16.md R193). -/
def effBoolHL (c : Ctx) (s : State) : State :=
  ((s.setSS c.alt .hl (boolWord s.hl)).setFlags c.alt (flagsBool s.hl)).advance c 1

/-- `BOOL HL` without a prefix (R193). -/
def execBoolHL (s : State) : Result := .next (effBoolHL Ctx.bare s)

/-- `BOOL IX` (43_arith16.md R194). -/
def effBoolIX (c : Ctx) (s : State) : State := ((s.setIX (boolWord s.ix)).setFlags c.alt (flagsBool s.ix)).advance c 2

/-- `BOOL IX` without a prefix (R194). -/
def execBoolIX (s : State) : Result := .next (effBoolIX Ctx.bare s)

/-- `BOOL IY` (43_arith16.md R195). -/
def effBoolIY (c : Ctx) (s : State) : State := ((s.setIY (boolWord s.iy)).setFlags c.alt (flagsBool s.iy)).advance c 2

/-- `BOOL IY` without a prefix (R195). -/
def execBoolIY (s : State) : Result := .next (effBoolIY Ctx.bare s)

/-- `DEC IX` (43_arith16.md R196). -/
def effDecIX (c : Ctx) (s : State) : State := (s.setIX (s.ix - 1)).advance c 2

/-- `DEC IX` without a prefix (R196). -/
def execDecIX (s : State) : Result := .next (effDecIX Ctx.bare s)

/-- `DEC IY` (43_arith16.md R197). -/
def effDecIY (c : Ctx) (s : State) : State := (s.setIY (s.iy - 1)).advance c 2

/-- `DEC IY` without a prefix (R197). -/
def execDecIY (s : State) : Result := .next (effDecIY Ctx.bare s)

/-- `DEC ss` (43_arith16.md R198). -/
def effDecSS (c : Ctx) (ss : SS) (s : State) : State := (s.setSS c.alt ss (s.getSS ss - 1)).advance c 1

/-- `DEC ss` without a prefix (R198). -/
def execDecSS (ss : SS) (s : State) : Result := .next (effDecSS Ctx.bare ss s)

/-- `INC IX` (43_arith16.md R199). -/
def effIncIX (c : Ctx) (s : State) : State := (s.setIX (s.ix + 1)).advance c 2

/-- `INC IX` without a prefix (R199). -/
def execIncIX (s : State) : Result := .next (effIncIX Ctx.bare s)

/-- `INC IY` (43_arith16.md R200). -/
def effIncIY (c : Ctx) (s : State) : State := (s.setIY (s.iy + 1)).advance c 2

/-- `INC IY` without a prefix (R200). -/
def execIncIY (s : State) : Result := .next (effIncIY Ctx.bare s)

/-- `INC ss` (43_arith16.md R201). -/
def effIncSS (c : Ctx) (ss : SS) (s : State) : State := (s.setSS c.alt ss (s.getSS ss + 1)).advance c 1

/-- `INC ss` without a prefix (R201). -/
def execIncSS (ss : SS) (s : State) : Result := .next (effIncSS Ctx.bare ss s)

/-- `MUL` (43_arith16.md R202). -/
def effMul (c : Ctx) (s : State) : State :=
  ((s.setSS false .hl ((mulSigned s.bc s.de).extractLsb' 16 16)).setSS false .bc
    ((mulSigned s.bc s.de).extractLsb' 0 16)).advance c 1

/-- `MUL` without a prefix (R202). -/
def execMul (s : State) : Result := .next (effMul Ctx.bare s)

/-- `OR HL,DE` (43_arith16.md R203). -/
def effOrHLDE (c : Ctx) (s : State) : State :=
  ((s.setSS c.alt .hl (s.hl ||| s.de)).setFlags c.alt (flagsLogic (s.hl ||| s.de) false)).advance c 1

/-- `OR HL,DE` without a prefix (R203). -/
def execOrHLDE (s : State) : Result := .next (effOrHLDE Ctx.bare s)

/-- `OR IX,DE` (43_arith16.md R204). -/
def effOrIXDE (c : Ctx) (s : State) : State :=
  ((s.setIX (s.ix ||| s.de)).setFlags c.alt (flagsLogic (s.ix ||| s.de) false)).advance c 2

/-- `OR IX,DE` without a prefix (R204). -/
def execOrIXDE (s : State) : Result := .next (effOrIXDE Ctx.bare s)

/-- `OR IY,DE` (43_arith16.md R205). -/
def effOrIYDE (c : Ctx) (s : State) : State :=
  ((s.setIY (s.iy ||| s.de)).setFlags c.alt (flagsLogic (s.iy ||| s.de) false)).advance c 2

/-- `OR IY,DE` without a prefix (R205). -/
def execOrIYDE (s : State) : Result := .next (effOrIYDE Ctx.bare s)

/-- `RL DE` (43_arith16.md R206). -/
def effRlDE (c : Ctx) (s : State) : State :=
  ((s.setSS c.alt .de (shiftRes .rl s.de s.carry)).setFlags c.alt
    (flagsShift .rl s.de s.carry)).advance c 1

/-- `RL DE` without a prefix (R206). -/
def execRlDE (s : State) : Result := .next (effRlDE Ctx.bare s)

/-- `RR DE` (43_arith16.md R207). -/
def effRrDE (c : Ctx) (s : State) : State :=
  ((s.setSS c.alt .de (shiftRes .rr s.de s.carry)).setFlags c.alt
    (flagsShift .rr s.de s.carry)).advance c 1

/-- `RR DE` without a prefix (R207). -/
def execRrDE (s : State) : Result := .next (effRrDE Ctx.bare s)

/-- `RR HL` (43_arith16.md R208). -/
def effRrHL (c : Ctx) (s : State) : State :=
  ((s.setSS c.alt .hl (shiftRes .rr s.hl s.carry)).setFlags c.alt (flagsShift .rr s.hl s.carry)).advance c 1

/-- `RR HL` without a prefix (R208). -/
def execRrHL (s : State) : Result := .next (effRrHL Ctx.bare s)

/-- `RR IX` (43_arith16.md R209). -/
def effRrIX (c : Ctx) (s : State) : State :=
  ((s.setIX (shiftRes .rr s.ix s.carry)).setFlags c.alt (flagsShift .rr s.ix s.carry)).advance c 2

/-- `RR IX` without a prefix (R209). -/
def execRrIX (s : State) : Result := .next (effRrIX Ctx.bare s)

/-- `RR IY` (43_arith16.md R210). -/
def effRrIY (c : Ctx) (s : State) : State :=
  ((s.setIY (shiftRes .rr s.iy s.carry)).setFlags c.alt (flagsShift .rr s.iy s.carry)).advance c 2

/-- `RR IY` without a prefix (R210). -/
def execRrIY (s : State) : Result := .next (effRrIY Ctx.bare s)

/-- `SBC HL,ss` (43_arith16.md R211). -/
def effSbcHLss (c : Ctx) (ss : SS) (s : State) : State :=
  ((s.setSS c.alt .hl (diffRes s.hl (s.getSS ss) s.carry)).setFlags c.alt
    (flagsSub s.hl (s.getSS ss) s.carry)).advance c 2

/-- `SBC HL,ss` without a prefix (R211). -/
def execSbcHLss (ss : SS) (s : State) : Result := .next (effSbcHLss Ctx.bare ss s)

end Sys2Proof.Machine
end

