-- ==== Sys2Proof/Machine/Arith8.lean ====
section
/-!
DEFINITION. 8-bit arithmetic and logical operations (spec/44_arith8.md).
For each row: its effect under a prefix set `c` (30_encoding.md R66), and the meaning of the bare instruction.
-/
namespace Sys2Proof.Machine

/-- `ADC A,(HL)` (44_arith8.md R215). -/
def effAdcMhl (c : Ctx) (s : State) : State := (s.aluMem c .adc s.hl).advance c 1

/-- `ADC A,(HL)` without a prefix (R215). -/
def execAdcMhl (s : State) : Result := .next (effAdcMhl Ctx.bare s)

/-- `ADC A,(IX+d)` (44_arith8.md R216). -/
def effAdcMix (c : Ctx) (d : Byte) (s : State) : State := (s.aluMem c .adc (s.eaIX d)).advance c 3

/-- `ADC A,(IX+d)` without a prefix (R216). -/
def execAdcMix (d : Byte) (s : State) : Result := .next (effAdcMix Ctx.bare d s)

/-- `ADC A,(IY+d)` (44_arith8.md R217). -/
def effAdcMiy (c : Ctx) (d : Byte) (s : State) : State := (s.aluMem c .adc (s.eaIY d)).advance c 3

/-- `ADC A,(IY+d)` without a prefix (R217). -/
def execAdcMiy (d : Byte) (s : State) : Result := .next (effAdcMiy Ctx.bare d s)

/-- `ADC A,n` (44_arith8.md R218). -/
def effAdcN (c : Ctx) (n : Byte) (s : State) : State := (s.alu c .adc n).advance c 2

/-- `ADC A,n` without a prefix (R218). -/
def execAdcN (n : Byte) (s : State) : Result := .next (effAdcN Ctx.bare n s)

/-- `ADC A,r` (44_arith8.md R219). -/
def effAdcR (c : Ctx) (r : R8) (s : State) : State := (s.alu c .adc (s.main.get r)).advance c 1

/-- `ADC A,r` without a prefix (R219). -/
def execAdcR (r : R8) (s : State) : Result := .next (effAdcR Ctx.bare r s)

/-- `ADD A,(HL)` (44_arith8.md R220). -/
def effAddMhl (c : Ctx) (s : State) : State := (s.aluMem c .add s.hl).advance c 1

/-- `ADD A,(HL)` without a prefix (R220). -/
def execAddMhl (s : State) : Result := .next (effAddMhl Ctx.bare s)

/-- `ADD A,(IX+d)` (44_arith8.md R221). -/
def effAddMix (c : Ctx) (d : Byte) (s : State) : State := (s.aluMem c .add (s.eaIX d)).advance c 3

/-- `ADD A,(IX+d)` without a prefix (R221). -/
def execAddMix (d : Byte) (s : State) : Result := .next (effAddMix Ctx.bare d s)

/-- `ADD A,(IY+d)` (44_arith8.md R222). -/
def effAddMiy (c : Ctx) (d : Byte) (s : State) : State := (s.aluMem c .add (s.eaIY d)).advance c 3

/-- `ADD A,(IY+d)` without a prefix (R222). -/
def execAddMiy (d : Byte) (s : State) : Result := .next (effAddMiy Ctx.bare d s)

/-- `ADD A,n` (44_arith8.md R223). -/
def effAddN (c : Ctx) (n : Byte) (s : State) : State := (s.alu c .add n).advance c 2

/-- `ADD A,n` without a prefix (R223). -/
def execAddN (n : Byte) (s : State) : Result := .next (effAddN Ctx.bare n s)

/-- `ADD A,r` (44_arith8.md R224). -/
def effAddR (c : Ctx) (r : R8) (s : State) : State := (s.alu c .add (s.main.get r)).advance c 1

/-- `ADD A,r` without a prefix (R224). -/
def execAddR (r : R8) (s : State) : Result := .next (effAddR Ctx.bare r s)

/-- `AND (HL)` (44_arith8.md R225). -/
def effAndMhl (c : Ctx) (s : State) : State := (s.aluMem c .conj s.hl).advance c 1

/-- `AND (HL)` without a prefix (R225). -/
def execAndMhl (s : State) : Result := .next (effAndMhl Ctx.bare s)

/-- `AND (IX+d)` (44_arith8.md R226). -/
def effAndMix (c : Ctx) (d : Byte) (s : State) : State := (s.aluMem c .conj (s.eaIX d)).advance c 3

/-- `AND (IX+d)` without a prefix (R226). -/
def execAndMix (d : Byte) (s : State) : Result := .next (effAndMix Ctx.bare d s)

/-- `AND (IY+d)` (44_arith8.md R227). -/
def effAndMiy (c : Ctx) (d : Byte) (s : State) : State := (s.aluMem c .conj (s.eaIY d)).advance c 3

/-- `AND (IY+d)` without a prefix (R227). -/
def execAndMiy (d : Byte) (s : State) : Result := .next (effAndMiy Ctx.bare d s)

/-- `AND n` (44_arith8.md R228). -/
def effAndN (c : Ctx) (n : Byte) (s : State) : State := (s.alu c .conj n).advance c 2

/-- `AND n` without a prefix (R228). -/
def execAndN (n : Byte) (s : State) : Result := .next (effAndN Ctx.bare n s)

/-- `AND r` (44_arith8.md R229). -/
def effAndR (c : Ctx) (r : R8) (s : State) : State := (s.alu c .conj (s.main.get r)).advance c 1

/-- `AND r` without a prefix (R229). -/
def execAndR (r : R8) (s : State) : Result := .next (effAndR Ctx.bare r s)

/-- `CP (HL)` (44_arith8.md R230). -/
def effCpMhl (c : Ctx) (s : State) : State := (s.aluMem c .cp s.hl).advance c 1

/-- `CP (HL)` without a prefix (R230). -/
def execCpMhl (s : State) : Result := .next (effCpMhl Ctx.bare s)

/-- `CP (IX+d)` (44_arith8.md R231). -/
def effCpMix (c : Ctx) (d : Byte) (s : State) : State := (s.aluMem c .cp (s.eaIX d)).advance c 3

/-- `CP (IX+d)` without a prefix (R231). -/
def execCpMix (d : Byte) (s : State) : Result := .next (effCpMix Ctx.bare d s)

/-- `CP (IY+d)` (44_arith8.md R232). -/
def effCpMiy (c : Ctx) (d : Byte) (s : State) : State := (s.aluMem c .cp (s.eaIY d)).advance c 3

/-- `CP (IY+d)` without a prefix (R232). -/
def execCpMiy (d : Byte) (s : State) : Result := .next (effCpMiy Ctx.bare d s)

/-- `CP n` (44_arith8.md R233). -/
def effCpN (c : Ctx) (n : Byte) (s : State) : State := (s.alu c .cp n).advance c 2

/-- `CP n` without a prefix (R233). -/
def execCpN (n : Byte) (s : State) : Result := .next (effCpN Ctx.bare n s)

/-- `CP r` (44_arith8.md R234). -/
def effCpR (c : Ctx) (r : R8) (s : State) : State := (s.alu c .cp (s.main.get r)).advance c 1

/-- `CP r` without a prefix (R234). -/
def execCpR (r : R8) (s : State) : Result := .next (effCpR Ctx.bare r s)

/-- `OR (HL)` (44_arith8.md R235). -/
def effOrMhl (c : Ctx) (s : State) : State := (s.aluMem c .disj s.hl).advance c 1

/-- `OR (HL)` without a prefix (R235). -/
def execOrMhl (s : State) : Result := .next (effOrMhl Ctx.bare s)

/-- `OR (IX+d)` (44_arith8.md R236). -/
def effOrMix (c : Ctx) (d : Byte) (s : State) : State := (s.aluMem c .disj (s.eaIX d)).advance c 3

/-- `OR (IX+d)` without a prefix (R236). -/
def execOrMix (d : Byte) (s : State) : Result := .next (effOrMix Ctx.bare d s)

/-- `OR (IY+d)` (44_arith8.md R237). -/
def effOrMiy (c : Ctx) (d : Byte) (s : State) : State := (s.aluMem c .disj (s.eaIY d)).advance c 3

/-- `OR (IY+d)` without a prefix (R237). -/
def execOrMiy (d : Byte) (s : State) : Result := .next (effOrMiy Ctx.bare d s)

/-- `OR n` (44_arith8.md R238). -/
def effOrN (c : Ctx) (n : Byte) (s : State) : State := (s.alu c .disj n).advance c 2

/-- `OR n` without a prefix (R238). -/
def execOrN (n : Byte) (s : State) : Result := .next (effOrN Ctx.bare n s)

/-- `OR r` (44_arith8.md R239). -/
def effOrR (c : Ctx) (r : R8) (s : State) : State := (s.alu c .disj (s.main.get r)).advance c 1

/-- `OR r` without a prefix (R239). -/
def execOrR (r : R8) (s : State) : Result := .next (effOrR Ctx.bare r s)

/-- `SBC A,(IX+d)` (44_arith8.md R240). -/
def effSbcMix (c : Ctx) (d : Byte) (s : State) : State := (s.aluMem c .sbc (s.eaIX d)).advance c 3

/-- `SBC A,(IX+d)` without a prefix (R240). -/
def execSbcMix (d : Byte) (s : State) : Result := .next (effSbcMix Ctx.bare d s)

/-- `SBC A,(IY+d)` (44_arith8.md R241). -/
def effSbcMiy (c : Ctx) (d : Byte) (s : State) : State := (s.aluMem c .sbc (s.eaIY d)).advance c 3

/-- `SBC A,(IY+d)` without a prefix (R241). -/
def execSbcMiy (d : Byte) (s : State) : Result := .next (effSbcMiy Ctx.bare d s)

/-- `SBC A,(HL)` (44_arith8.md R242). -/
def effSbcMhl (c : Ctx) (s : State) : State := (s.aluMem c .sbc s.hl).advance c 1

/-- `SBC A,(HL)` without a prefix (R242). -/
def execSbcMhl (s : State) : Result := .next (effSbcMhl Ctx.bare s)

/-- `SBC A,n` (44_arith8.md R243). -/
def effSbcN (c : Ctx) (n : Byte) (s : State) : State := (s.alu c .sbc n).advance c 2

/-- `SBC A,n` without a prefix (R243). -/
def execSbcN (n : Byte) (s : State) : Result := .next (effSbcN Ctx.bare n s)

/-- `SBC A,r` (44_arith8.md R244). -/
def effSbcR (c : Ctx) (r : R8) (s : State) : State := (s.alu c .sbc (s.main.get r)).advance c 1

/-- `SBC A,r` without a prefix (R244). -/
def execSbcR (r : R8) (s : State) : Result := .next (effSbcR Ctx.bare r s)

/-- `SUB (HL)` (44_arith8.md R245). -/
def effSubMhl (c : Ctx) (s : State) : State := (s.aluMem c .sub s.hl).advance c 1

/-- `SUB (HL)` without a prefix (R245). -/
def execSubMhl (s : State) : Result := .next (effSubMhl Ctx.bare s)

/-- `SUB (IX+d)` (44_arith8.md R246). -/
def effSubMix (c : Ctx) (d : Byte) (s : State) : State := (s.aluMem c .sub (s.eaIX d)).advance c 3

/-- `SUB (IX+d)` without a prefix (R246). -/
def execSubMix (d : Byte) (s : State) : Result := .next (effSubMix Ctx.bare d s)

/-- `SUB (IY+d)` (44_arith8.md R247). -/
def effSubMiy (c : Ctx) (d : Byte) (s : State) : State := (s.aluMem c .sub (s.eaIY d)).advance c 3

/-- `SUB (IY+d)` without a prefix (R247). -/
def execSubMiy (d : Byte) (s : State) : Result := .next (effSubMiy Ctx.bare d s)

/-- `SUB n` (44_arith8.md R248). -/
def effSubN (c : Ctx) (n : Byte) (s : State) : State := (s.alu c .sub n).advance c 2

/-- `SUB n` without a prefix (R248). -/
def execSubN (n : Byte) (s : State) : Result := .next (effSubN Ctx.bare n s)

/-- `SUB r` (44_arith8.md R249). -/
def effSubR (c : Ctx) (r : R8) (s : State) : State := (s.alu c .sub (s.main.get r)).advance c 1

/-- `SUB r` without a prefix (R249). -/
def execSubR (r : R8) (s : State) : Result := .next (effSubR Ctx.bare r s)

/-- `XOR (HL)` (44_arith8.md R250). -/
def effXorMhl (c : Ctx) (s : State) : State := (s.aluMem c .xor s.hl).advance c 1

/-- `XOR (HL)` without a prefix (R250). -/
def execXorMhl (s : State) : Result := .next (effXorMhl Ctx.bare s)

/-- `XOR (IX+d)` (44_arith8.md R251). -/
def effXorMix (c : Ctx) (d : Byte) (s : State) : State := (s.aluMem c .xor (s.eaIX d)).advance c 3

/-- `XOR (IX+d)` without a prefix (R251). -/
def execXorMix (d : Byte) (s : State) : Result := .next (effXorMix Ctx.bare d s)

/-- `XOR (IY+d)` (44_arith8.md R252). -/
def effXorMiy (c : Ctx) (d : Byte) (s : State) : State := (s.aluMem c .xor (s.eaIY d)).advance c 3

/-- `XOR (IY+d)` without a prefix (R252). -/
def execXorMiy (d : Byte) (s : State) : Result := .next (effXorMiy Ctx.bare d s)

/-- `XOR n` (44_arith8.md R253). -/
def effXorN (c : Ctx) (n : Byte) (s : State) : State := (s.alu c .xor n).advance c 2

/-- `XOR n` without a prefix (R253). -/
def execXorN (n : Byte) (s : State) : Result := .next (effXorN Ctx.bare n s)

/-- `XOR r` (44_arith8.md R254). -/
def effXorR (c : Ctx) (r : R8) (s : State) : State := (s.alu c .xor (s.main.get r)).advance c 1

/-- `XOR r` without a prefix (R254). -/
def execXorR (r : R8) (s : State) : Result := .next (effXorR Ctx.bare r s)

end Sys2Proof.Machine
end

