-- ==== Sys2Proof/Machine/BitIncDec.lean ====
section
/-!
DEFINITION. Bit set, reset and test, increment and decrement, fast A register operations (spec/45_bit_incdec_fastA.md).
For each row: its effect under a prefix set `c` (30_encoding.md R66), and the meaning of the bare instruction.
-/
namespace Sys2Proof.Machine

/-- `BIT b,(HL)` (45_bit_incdec_fastA.md R255). -/
def effBitMhl (c : Ctx) (b : BitVec 3) (s : State) : State := (s.bitMem c b s.hl).advancePriv c 2

/-- `BIT b,(HL)` without a prefix (R255). -/
def execBitMhl (b : BitVec 3) (s : State) : Result := .next (effBitMhl Ctx.bare b s)

/-- `BIT b,(IX+d)` (45_bit_incdec_fastA.md R256). -/
def effBitMix (c : Ctx) (b : BitVec 3) (d : Byte) (s : State) : State := (s.bitMem c b (s.eaIX d)).advance c 4

/-- `BIT b,(IX+d)` without a prefix (R256). -/
def execBitMix (b : BitVec 3) (d : Byte) (s : State) : Result := .next (effBitMix Ctx.bare b d s)

/-- `BIT b,(IY+d)` (45_bit_incdec_fastA.md R257). -/
def effBitMiy (c : Ctx) (b : BitVec 3) (d : Byte) (s : State) : State := (s.bitMem c b (s.eaIY d)).advance c 4

/-- `BIT b,(IY+d)` without a prefix (R257). -/
def execBitMiy (b : BitVec 3) (d : Byte) (s : State) : Result := .next (effBitMiy Ctx.bare b d s)

/-- `BIT b,r` (45_bit_incdec_fastA.md R258). -/
def effBitR (c : Ctx) (b : BitVec 3) (r : R8) (s : State) : State :=
  (s.setFlags c.alt (flagsBit b (s.main.get r))).advance c 2

/-- `BIT b,r` without a prefix (R258). -/
def execBitR (b : BitVec 3) (r : R8) (s : State) : Result := .next (effBitR Ctx.bare b r s)

/-- `RES b,(HL)` (45_bit_incdec_fastA.md R259). -/
def effResMhl (c : Ctx) (b : BitVec 3) (s : State) : State := (s.rmw c s.hl (resBit b)).advance c 2

/-- `RES b,(HL)` without a prefix (R259). -/
def execResMhl (b : BitVec 3) (s : State) : Result := .next (effResMhl Ctx.bare b s)

/-- `RES b,(IX+d)` (45_bit_incdec_fastA.md R260). -/
def effResMix (c : Ctx) (b : BitVec 3) (d : Byte) (s : State) : State := (s.rmw c (s.eaIX d) (resBit b)).advance c 4

/-- `RES b,(IX+d)` without a prefix (R260). -/
def execResMix (b : BitVec 3) (d : Byte) (s : State) : Result := .next (effResMix Ctx.bare b d s)

/-- `RES b,(IY+d)` (45_bit_incdec_fastA.md R261). -/
def effResMiy (c : Ctx) (b : BitVec 3) (d : Byte) (s : State) : State := (s.rmw c (s.eaIY d) (resBit b)).advance c 4

/-- `RES b,(IY+d)` without a prefix (R261). -/
def execResMiy (b : BitVec 3) (d : Byte) (s : State) : Result := .next (effResMiy Ctx.bare b d s)

/-- `RES b,r` (45_bit_incdec_fastA.md R262). -/
def effResR (c : Ctx) (b : BitVec 3) (r : R8) (s : State) : State := (s.setR8 c.alt r (resBit b (s.main.get r))).advance c 2

/-- `RES b,r` without a prefix (R262). -/
def execResR (b : BitVec 3) (r : R8) (s : State) : Result := .next (effResR Ctx.bare b r s)

/-- `SET b,(HL)` (45_bit_incdec_fastA.md R263). -/
def effSetMhl (c : Ctx) (b : BitVec 3) (s : State) : State := (s.rmw c s.hl (setBit b)).advance c 2

/-- `SET b,(HL)` without a prefix (R263). -/
def execSetMhl (b : BitVec 3) (s : State) : Result := .next (effSetMhl Ctx.bare b s)

/-- `SET b,(IX+d)` (45_bit_incdec_fastA.md R264). -/
def effSetMix (c : Ctx) (b : BitVec 3) (d : Byte) (s : State) : State := (s.rmw c (s.eaIX d) (setBit b)).advance c 4

/-- `SET b,(IX+d)` without a prefix (R264). -/
def execSetMix (b : BitVec 3) (d : Byte) (s : State) : Result := .next (effSetMix Ctx.bare b d s)

/-- `SET b,(IY+d)` (45_bit_incdec_fastA.md R265). -/
def effSetMiy (c : Ctx) (b : BitVec 3) (d : Byte) (s : State) : State := (s.rmw c (s.eaIY d) (setBit b)).advance c 4

/-- `SET b,(IY+d)` without a prefix (R265). -/
def execSetMiy (b : BitVec 3) (d : Byte) (s : State) : Result := .next (effSetMiy Ctx.bare b d s)

/-- `SET b,r` (45_bit_incdec_fastA.md R266). -/
def effSetR (c : Ctx) (b : BitVec 3) (r : R8) (s : State) : State := (s.setR8 c.alt r (setBit b (s.main.get r))).advance c 2

/-- `SET b,r` without a prefix (R266). -/
def execSetR (b : BitVec 3) (r : R8) (s : State) : Result := .next (effSetR Ctx.bare b r s)

/-- `DEC (HL)` (45_bit_incdec_fastA.md R268). -/
def effDecMhl (c : Ctx) (s : State) : State := (s.decMem c s.hl).advance c 1

/-- `DEC (HL)` without a prefix (R268). -/
def execDecMhl (s : State) : Result := .next (effDecMhl Ctx.bare s)

/-- `DEC (IX+d)` (45_bit_incdec_fastA.md R269). -/
def effDecMix (c : Ctx) (d : Byte) (s : State) : State := (s.decMem c (s.eaIX d)).advance c 3

/-- `DEC (IX+d)` without a prefix (R269). -/
def execDecMix (d : Byte) (s : State) : Result := .next (effDecMix Ctx.bare d s)

/-- `DEC (IY+d)` (45_bit_incdec_fastA.md R270). -/
def effDecMiy (c : Ctx) (d : Byte) (s : State) : State := (s.decMem c (s.eaIY d)).advance c 3

/-- `DEC (IY+d)` without a prefix (R270). -/
def execDecMiy (d : Byte) (s : State) : Result := .next (effDecMiy Ctx.bare d s)

/-- `DEC r` (45_bit_incdec_fastA.md R271). -/
def effDecR (c : Ctx) (r : R8) (s : State) : State :=
  ((s.setR8 c.alt r (s.main.get r - 1)).setFlags c.alt (flagsDec (s.main.get r))).advance c 1

/-- `DEC r` without a prefix (R271). -/
def execDecR (r : R8) (s : State) : Result := .next (effDecR Ctx.bare r s)

/-- `INC (HL)` (45_bit_incdec_fastA.md R272). -/
def effIncMhl (c : Ctx) (s : State) : State := (s.incMem c s.hl).advance c 1

/-- `INC (HL)` without a prefix (R272). -/
def execIncMhl (s : State) : Result := .next (effIncMhl Ctx.bare s)

/-- `INC (IX+d)` (45_bit_incdec_fastA.md R273). -/
def effIncMix (c : Ctx) (d : Byte) (s : State) : State := (s.incMem c (s.eaIX d)).advance c 3

/-- `INC (IX+d)` without a prefix (R273). -/
def execIncMix (d : Byte) (s : State) : Result := .next (effIncMix Ctx.bare d s)

/-- `INC (IY+d)` (45_bit_incdec_fastA.md R274). -/
def effIncMiy (c : Ctx) (d : Byte) (s : State) : State := (s.incMem c (s.eaIY d)).advance c 3

/-- `INC (IY+d)` without a prefix (R274). -/
def execIncMiy (d : Byte) (s : State) : Result := .next (effIncMiy Ctx.bare d s)

/-- `INC r` (45_bit_incdec_fastA.md R275). -/
def effIncR (c : Ctx) (r : R8) (s : State) : State :=
  ((s.setR8 c.alt r (s.main.get r + 1)).setFlags c.alt (flagsInc (s.main.get r))).advance c 1

/-- `INC r` without a prefix (R275). -/
def execIncR (r : R8) (s : State) : Result := .next (effIncR Ctx.bare r s)

/-- `CPL` (45_bit_incdec_fastA.md R276). -/
def effCpl (c : Ctx) (s : State) : State := (s.setR8 c.alt .a (~~~s.main.a)).advance c 1

/-- `CPL` without a prefix (R276). -/
def execCpl (s : State) : Result := .next (effCpl Ctx.bare s)

/-- `NEG` (45_bit_incdec_fastA.md R277). -/
def effNeg (c : Ctx) (s : State) : State :=
  ((s.setR8 c.alt .a (diffRes 0 s.main.a false)).setFlags c.alt (flagsSub 0 s.main.a false)).advance c 2

/-- `NEG` without a prefix (R277). -/
def execNeg (s : State) : Result := .next (effNeg Ctx.bare s)

/-- `RLA` (45_bit_incdec_fastA.md R278). -/
def effRla (c : Ctx) (s : State) : State :=
  ((s.setR8 c.alt .a (shiftRes .rl s.main.a s.carry)).setFlags c.alt
    { c := some (shiftOut .rl s.main.a) }).advance c 1

/-- `RLA` without a prefix (R278). -/
def execRla (s : State) : Result := .next (effRla Ctx.bare s)

/-- `RLCA` (45_bit_incdec_fastA.md R279). -/
def effRlca (c : Ctx) (s : State) : State :=
  ((s.setR8 c.alt .a (shiftRes .rlc s.main.a s.carry)).setFlags c.alt
    { c := some (shiftOut .rlc s.main.a) }).advance c 1

/-- `RLCA` without a prefix (R279). -/
def execRlca (s : State) : Result := .next (effRlca Ctx.bare s)

/-- `RRA` (45_bit_incdec_fastA.md R280). -/
def effRra (c : Ctx) (s : State) : State :=
  ((s.setR8 c.alt .a (shiftRes .rr s.main.a s.carry)).setFlags c.alt
    { c := some (shiftOut .rr s.main.a) }).advance c 1

/-- `RRA` without a prefix (R280). -/
def execRra (s : State) : Result := .next (effRra Ctx.bare s)

/-- `RRCA` (45_bit_incdec_fastA.md R281). -/
def effRrca (c : Ctx) (s : State) : State :=
  ((s.setR8 c.alt .a (shiftRes .rrc s.main.a s.carry)).setFlags c.alt
    { c := some (shiftOut .rrc s.main.a) }).advance c 1

/-- `RRCA` without a prefix (R281). -/
def execRrca (s : State) : Result := .next (effRrca Ctx.bare s)

end Sys2Proof.Machine
end

