-- ==== Sys2Proof/Machine/BlockMove.lean ====
section
/-!
DEFINITION. Block moves (spec/47_prefix_block.md R314 to R319).
For each row: its effect under a prefix set `c` (30_encoding.md R66), and the meaning of the bare instruction.
-/
namespace Sys2Proof.Machine

/-- `LDD` (47_prefix_block.md R316). -/
def effLdd (c : Ctx) (s : State) : State := (s.moveStep c .down).advance c 2

/-- `LDD` without a prefix (R316). -/
def execLdd (s : State) : Result := .next (effLdd Ctx.bare s)

/-- `LDDR` (47_prefix_block.md R317). -/
def effLddr (c : Ctx) (s : State) : State := (s.moveStep c .down).repeatOrAdvance c 2

/-- `LDDR` without a prefix (R317). -/
def execLddr (s : State) : Result := .next (effLddr Ctx.bare s)

/-- `LDI` (47_prefix_block.md R318). -/
def effLdi (c : Ctx) (s : State) : State := (s.moveStep c .up).advance c 2

/-- `LDI` without a prefix (R318). -/
def execLdi (s : State) : Result := .next (effLdi Ctx.bare s)

/-- `LDIR` (47_prefix_block.md R319). -/
def effLdir (c : Ctx) (s : State) : State := (s.moveStep c .up).repeatOrAdvance c 2

/-- `LDIR` without a prefix (R319). -/
def execLdir (s : State) : Result := .next (effLdir Ctx.bare s)

end Sys2Proof.Machine
end

