-- ==== Sys2Proof/Machine/Control.lean ====
section
/-!
DEFINITION. Jumps, calls and returns (spec/48_control.md).
For each row: its effect under a prefix set `c` (30_encoding.md R66), and the meaning of the bare instruction.
-/
namespace Sys2Proof.Machine

/-- `CALL mn` (48_control.md R321). -/
def effCallMn (c : Ctx) (mn : Word) (s : State) : State := (s.push16 (s.pcn c 3)).jump mn

/-- `CALL mn` without a prefix (R321). -/
def execCallMn (mn : Word) (s : State) : Result := .next (effCallMn Ctx.bare mn s)

/-- `DJNZ j` (48_control.md R322). -/
def effDjnz (c : Ctx) (e : Byte) (s : State) : State :=
  (s.setR8 c.alt .b (s.main.b - 1)).branch c 2 (s.main.b - 1 != 0) (s.pcn c 2 + sext e)

/-- `DJNZ j` without a prefix (R322). -/
def execDjnz (e : Byte) (s : State) : Result := .next (effDjnz Ctx.bare e s)

/-- `JP (HL)` (48_control.md R323). -/
def effJpHL (_c : Ctx) (s : State) : State := s.jump s.hl

/-- `JP (HL)` without a prefix (R323). -/
def execJpHL (s : State) : Result := .next (effJpHL Ctx.bare s)

/-- `JP (IX)` (48_control.md R324). -/
def effJpIX (_c : Ctx) (s : State) : State := s.jump s.ix

/-- `JP (IX)` without a prefix (R324). -/
def execJpIX (s : State) : Result := .next (effJpIX Ctx.bare s)

/-- `JP (IY)` (48_control.md R325). -/
def effJpIY (_c : Ctx) (s : State) : State := s.jump s.iy

/-- `JP (IY)` without a prefix (R325). -/
def execJpIY (s : State) : Result := .next (effJpIY Ctx.bare s)

/-- `JP f,mn` (48_control.md R326). -/
def effJpF (c : Ctx) (f : CondF) (mn : Word) (s : State) : State := s.branch c 3 (s.condF f) mn

/-- `JP f,mn` without a prefix (R326). -/
def execJpF (f : CondF) (mn : Word) (s : State) : Result := .next (effJpF Ctx.bare f mn s)

/-- `JP mn` (48_control.md R327). -/
def effJpMn (_c : Ctx) (mn : Word) (s : State) : State := s.jump mn

/-- `JP mn` without a prefix (R327). -/
def execJpMn (mn : Word) (s : State) : Result := .next (effJpMn Ctx.bare mn s)

/-- `JR cc,e` (48_control.md R328). -/
def effJrCC (c : Ctx) (cc : CondCC) (e : Byte) (s : State) : State := s.branch c 2 (s.condCC cc) (s.pcn c 2 + sext e)

/-- `JR cc,e` without a prefix (R328). -/
def execJrCC (cc : CondCC) (e : Byte) (s : State) : Result := .next (effJrCC Ctx.bare cc e s)

/-- `JR e` (48_control.md R329). -/
def effJrE (c : Ctx) (e : Byte) (s : State) : State := s.jump (s.pcn c 2 + sext e)

/-- `JR e` without a prefix (R329). -/
def execJrE (e : Byte) (s : State) : Result := .next (effJrE Ctx.bare e s)

/-- `LCALL xpc,mn` (48_control.md R330). -/
def effLcall (c : Ctx) (x : Byte) (mn : Word) (s : State) : State := (((s.push8 s.xpc).push16 (s.pcn c 4)).setXPC x).jump mn

/-- `LCALL xpc,mn` without a prefix (R330). -/
def execLcall (x : Byte) (mn : Word) (s : State) : Result := .next (effLcall Ctx.bare x mn s)

/-- `LJP xpc,mn` (48_control.md R331). -/
def effLjp (_c : Ctx) (x : Byte) (mn : Word) (s : State) : State := (s.setXPC x).jump mn

/-- `LJP xpc,mn` without a prefix (R331). -/
def execLjp (x : Byte) (mn : Word) (s : State) : Result := .next (effLjp Ctx.bare x mn s)

/-- `LRET` (48_control.md R332). -/
def effLret (_c : Ctx) (s : State) : State := ((s.setSP (s.sp + 3)).setXPC (s.mem8 (s.sp + 2))).jump (s.mem16 s.sp)

/-- `LRET` without a prefix (R332). -/
def execLret (s : State) : Result := .next (effLret Ctx.bare s)

/-- `RET` (48_control.md R333). -/
def effRet (_c : Ctx) (s : State) : State := s.ret

/-- `RET` without a prefix (R333). -/
def execRet (s : State) : Result := .next (effRet Ctx.bare s)

/-- `RET f` (48_control.md R334). -/
def effRetF (c : Ctx) (f : CondF) (s : State) : State := s.retIf c 1 (s.condF f)

/-- `RET f` without a prefix (R334). -/
def execRetF (f : CondF) (s : State) : Result := .next (effRetF Ctx.bare f s)

/-- `RETI` (48_control.md R335). -/
def effReti (_c : Ctx) (s : State) : State := ((s.setSP (s.sp + 3)).setIP (s.mem8 s.sp)).jumpPriv (s.mem16 (s.sp + 1))

/-- `RETI` without a prefix (R335). -/
def execReti (s : State) : Result := .next (effReti Ctx.bare s)

/-- `RST v` (48_control.md R336). -/
def effRst (c : Ctx) (v : Rst) (s : State) : State := (s.push16 (s.pcn c 1)).jump (s.rstTarget v)

/-- `RST v` without a prefix (R336). -/
def execRst (v : Rst) (s : State) : Result := .next (effRst Ctx.bare v s)

end Sys2Proof.Machine
end

