-- ==== Sys2Proof/Machine/LoadIdx.lean ====
section
/-!
DEFINITION. 8-bit and 16-bit indexed loads and stores, and the 20-bit `LDP` loads and stores (spec/41_load_indexed.md).
For each row: its effect under a prefix set `c` (30_encoding.md R66), and the meaning of the bare instruction.
-/
namespace Sys2Proof.Machine

/-- `LD A,(BC)` (41_load_indexed.md R114). -/
def effLdAMbc (c : Ctx) (s : State) : State := (s.loadR8 c .a s.bc).advance c 1

/-- `LD A,(BC)` without a prefix (R114). -/
def execLdAMbc (s : State) : Result := .next (effLdAMbc Ctx.bare s)

/-- `LD A,(DE)` (41_load_indexed.md R115). -/
def effLdAMde (c : Ctx) (s : State) : State := (s.loadR8 c .a s.de).advance c 1

/-- `LD A,(DE)` without a prefix (R115). -/
def execLdAMde (s : State) : Result := .next (effLdAMde Ctx.bare s)

/-- `LD (BC),A` (41_load_indexed.md R116). -/
def effLdMbcA (c : Ctx) (s : State) : State := (s.wrD8 c s.bc s.main.a).advance c 1

/-- `LD (BC),A` without a prefix (R116). -/
def execLdMbcA (s : State) : Result := .next (effLdMbcA Ctx.bare s)

/-- `LD (DE),A` (41_load_indexed.md R117). -/
def effLdMdeA (c : Ctx) (s : State) : State := (s.wrD8 c s.de s.main.a).advance c 1

/-- `LD (DE),A` without a prefix (R117). -/
def execLdMdeA (s : State) : Result := .next (effLdMdeA Ctx.bare s)

/-- `LD (HL),n` (41_load_indexed.md R118). -/
def effLdMhlN (c : Ctx) (n : Byte) (s : State) : State := (s.wrD8 c s.hl n).advance c 2

/-- `LD (HL),n` without a prefix (R118). -/
def execLdMhlN (n : Byte) (s : State) : Result := .next (effLdMhlN Ctx.bare n s)

/-- `LD (HL),r` (41_load_indexed.md R119). -/
def effLdMhlR (c : Ctx) (r : R8) (s : State) : State := (s.wrD8 c s.hl (s.main.get r)).advance c 1

/-- `LD (HL),r` without a prefix (R119). -/
def execLdMhlR (r : R8) (s : State) : Result := .next (effLdMhlR Ctx.bare r s)

/-- `LD r,(HL)` (41_load_indexed.md R120). -/
def effLdRMhl (c : Ctx) (r : R8) (s : State) : State := (s.loadR8 c r s.hl).advance c 1

/-- `LD r,(HL)` without a prefix (R120). -/
def execLdRMhl (r : R8) (s : State) : Result := .next (effLdRMhl Ctx.bare r s)

/-- `LD (IX+d),n` (41_load_indexed.md R121). -/
def effLdMixN (c : Ctx) (d : Byte) (n : Byte) (s : State) : State := (s.wrD8 c (s.eaIX d) n).advance c 4

/-- `LD (IX+d),n` without a prefix (R121). -/
def execLdMixN (d : Byte) (n : Byte) (s : State) : Result := .next (effLdMixN Ctx.bare d n s)

/-- `LD (IX+d),r` (41_load_indexed.md R122). -/
def effLdMixR (c : Ctx) (d : Byte) (r : R8) (s : State) : State := (s.wrD8 c (s.eaIX d) (s.main.get r)).advance c 3

/-- `LD (IX+d),r` without a prefix (R122). -/
def execLdMixR (d : Byte) (r : R8) (s : State) : Result := .next (effLdMixR Ctx.bare d r s)

/-- `LD r,(IX+d)` (41_load_indexed.md R123). -/
def effLdRMix (c : Ctx) (r : R8) (d : Byte) (s : State) : State := (s.loadR8 c r (s.eaIX d)).advance c 3

/-- `LD r,(IX+d)` without a prefix (R123). -/
def execLdRMix (r : R8) (d : Byte) (s : State) : Result := .next (effLdRMix Ctx.bare r d s)

/-- `LD (IY+d),n` (41_load_indexed.md R124). -/
def effLdMiyN (c : Ctx) (d : Byte) (n : Byte) (s : State) : State := (s.wrD8 c (s.eaIY d) n).advance c 4

/-- `LD (IY+d),n` without a prefix (R124). -/
def execLdMiyN (d : Byte) (n : Byte) (s : State) : Result := .next (effLdMiyN Ctx.bare d n s)

/-- `LD (IY+d),r` (41_load_indexed.md R125). -/
def effLdMiyR (c : Ctx) (d : Byte) (r : R8) (s : State) : State := (s.wrD8 c (s.eaIY d) (s.main.get r)).advance c 3

/-- `LD (IY+d),r` without a prefix (R125). -/
def execLdMiyR (d : Byte) (r : R8) (s : State) : Result := .next (effLdMiyR Ctx.bare d r s)

/-- `LD r,(IY+d)` (41_load_indexed.md R126). -/
def effLdRMiy (c : Ctx) (r : R8) (d : Byte) (s : State) : State := (s.loadR8 c r (s.eaIY d)).advance c 3

/-- `LD r,(IY+d)` without a prefix (R126). -/
def execLdRMiy (r : R8) (d : Byte) (s : State) : Result := .next (effLdRMiy Ctx.bare r d s)

/-- `LD (HL+d),HL` (41_load_indexed.md R127). -/
def effLdMhldHL (c : Ctx) (d : Byte) (s : State) : State := (s.wrD16 c (s.eaHL d) s.hl).advance c 3

/-- `LD (HL+d),HL` without a prefix (R127). -/
def execLdMhldHL (d : Byte) (s : State) : Result := .next (effLdMhldHL Ctx.bare d s)

/-- `LD HL,(HL+d)` (41_load_indexed.md R128). -/
def effLdHLMhld (c : Ctx) (d : Byte) (s : State) : State := (s.loadSS c .hl (s.eaHL d)).advance c 3

/-- `LD HL,(HL+d)` without a prefix (R128). -/
def execLdHLMhld (d : Byte) (s : State) : Result := .next (effLdHLMhld Ctx.bare d s)

/-- `LD (SP+n),HL` (41_load_indexed.md R129). -/
def effLdMspHL (c : Ctx) (n : Byte) (s : State) : State := (s.wrMem16 (s.eaSP n) s.hl).advance c 2

/-- `LD (SP+n),HL` without a prefix (R129). -/
def execLdMspHL (n : Byte) (s : State) : Result := .next (effLdMspHL Ctx.bare n s)

/-- `LD (SP+n),IX` (41_load_indexed.md R130). -/
def effLdMspIX (c : Ctx) (n : Byte) (s : State) : State := (s.wrMem16 (s.eaSP n) s.ix).advance c 3

/-- `LD (SP+n),IX` without a prefix (R130). -/
def execLdMspIX (n : Byte) (s : State) : Result := .next (effLdMspIX Ctx.bare n s)

/-- `LD (SP+n),IY` (41_load_indexed.md R131). -/
def effLdMspIY (c : Ctx) (n : Byte) (s : State) : State := (s.wrMem16 (s.eaSP n) s.iy).advance c 3

/-- `LD (SP+n),IY` without a prefix (R131). -/
def execLdMspIY (n : Byte) (s : State) : Result := .next (effLdMspIY Ctx.bare n s)

/-- `LD HL,(SP+n)` (41_load_indexed.md R132). -/
def effLdHLMsp (c : Ctx) (n : Byte) (s : State) : State := (s.setSS c.alt .hl (s.mem16 (s.eaSP n))).advance c 2

/-- `LD HL,(SP+n)` without a prefix (R132). -/
def execLdHLMsp (n : Byte) (s : State) : Result := .next (effLdHLMsp Ctx.bare n s)

/-- `LD IX,(SP+n)` (41_load_indexed.md R133). -/
def effLdIXMsp (c : Ctx) (n : Byte) (s : State) : State := (s.setIX (s.mem16 (s.eaSP n))).advance c 3

/-- `LD IX,(SP+n)` without a prefix (R133). -/
def execLdIXMsp (n : Byte) (s : State) : Result := .next (effLdIXMsp Ctx.bare n s)

/-- `LD IY,(SP+n)` (41_load_indexed.md R134). -/
def effLdIYMsp (c : Ctx) (n : Byte) (s : State) : State := (s.setIY (s.mem16 (s.eaSP n))).advance c 3

/-- `LD IY,(SP+n)` without a prefix (R134). -/
def execLdIYMsp (n : Byte) (s : State) : Result := .next (effLdIYMsp Ctx.bare n s)

/-- `LD (IX+d),HL` (41_load_indexed.md R135). -/
def effLdMixHL (c : Ctx) (d : Byte) (s : State) : State := (s.wrD16 c (s.eaIX d) s.hl).advance c 2

/-- `LD (IX+d),HL` without a prefix (R135). -/
def execLdMixHL (d : Byte) (s : State) : Result := .next (effLdMixHL Ctx.bare d s)

/-- `LD HL,(IX+d)` (41_load_indexed.md R136). -/
def effLdHLMix (c : Ctx) (d : Byte) (s : State) : State := (s.loadSS c .hl (s.eaIX d)).advance c 2

/-- `LD HL,(IX+d)` without a prefix (R136). -/
def execLdHLMix (d : Byte) (s : State) : Result := .next (effLdHLMix Ctx.bare d s)

/-- `LD (IY+d),HL` (41_load_indexed.md R137). -/
def effLdMiyHL (c : Ctx) (d : Byte) (s : State) : State := (s.wrD16 c (s.eaIY d) s.hl).advance c 3

/-- `LD (IY+d),HL` without a prefix (R137). -/
def execLdMiyHL (d : Byte) (s : State) : Result := .next (effLdMiyHL Ctx.bare d s)

/-- `LD HL,(IY+d)` (41_load_indexed.md R138). -/
def effLdHLMiy (c : Ctx) (d : Byte) (s : State) : State := (s.loadSS c .hl (s.eaIY d)).advance c 3

/-- `LD HL,(IY+d)` without a prefix (R138). -/
def execLdHLMiy (d : Byte) (s : State) : Result := .next (effLdHLMiy Ctx.bare d s)

/-- `LDP (HL),HL` (41_load_indexed.md R139). -/
def effLdpMhlHL (c : Ctx) (s : State) : State := (s.ldpWrite s.hl s.hl).advance c 2

/-- `LDP (HL),HL` without a prefix (R139). -/
def execLdpMhlHL (s : State) : Result := .next (effLdpMhlHL Ctx.bare s)

/-- `LDP (IX),HL` (41_load_indexed.md R140). -/
def effLdpMixHL (c : Ctx) (s : State) : State := (s.ldpWrite s.ix s.hl).advance c 2

/-- `LDP (IX),HL` without a prefix (R140). -/
def execLdpMixHL (s : State) : Result := .next (effLdpMixHL Ctx.bare s)

/-- `LDP (IY),HL` (41_load_indexed.md R141). -/
def effLdpMiyHL (c : Ctx) (s : State) : State := (s.ldpWrite s.iy s.hl).advance c 2

/-- `LDP (IY),HL` without a prefix (R141). -/
def execLdpMiyHL (s : State) : Result := .next (effLdpMiyHL Ctx.bare s)

/-- `LDP HL,(HL)` (41_load_indexed.md R142). -/
def effLdpHLMhl (c : Ctx) (s : State) : State := (s.setSS false .hl (s.ldpRead s.hl)).advance c 2

/-- `LDP HL,(HL)` without a prefix (R142). -/
def execLdpHLMhl (s : State) : Result := .next (effLdpHLMhl Ctx.bare s)

/-- `LDP HL,(IX)` (41_load_indexed.md R143). -/
def effLdpHLMix (c : Ctx) (s : State) : State := (s.setSS false .hl (s.ldpRead s.ix)).advance c 2

/-- `LDP HL,(IX)` without a prefix (R143). -/
def execLdpHLMix (s : State) : Result := .next (effLdpHLMix Ctx.bare s)

/-- `LDP HL,(IY)` (41_load_indexed.md R144). -/
def effLdpHLMiy (c : Ctx) (s : State) : State := (s.setSS false .hl (s.ldpRead s.iy)).advance c 2

/-- `LDP HL,(IY)` without a prefix (R144). -/
def execLdpHLMiy (s : State) : Result := .next (effLdpHLMiy Ctx.bare s)

/-- `LDP (mn),HL` (41_load_indexed.md R145). -/
def effLdpMmnHL (c : Ctx) (mn : Word) (s : State) : State := (s.ldpWrite mn s.hl).advance c 4

/-- `LDP (mn),HL` without a prefix (R145). -/
def execLdpMmnHL (mn : Word) (s : State) : Result := .next (effLdpMmnHL Ctx.bare mn s)

/-- `LDP (mn),IX` (41_load_indexed.md R146). -/
def effLdpMmnIX (c : Ctx) (mn : Word) (s : State) : State := (s.ldpWrite mn s.ix).advance c 4

/-- `LDP (mn),IX` without a prefix (R146). -/
def execLdpMmnIX (mn : Word) (s : State) : Result := .next (effLdpMmnIX Ctx.bare mn s)

/-- `LDP (mn),IY` (41_load_indexed.md R147). -/
def effLdpMmnIY (c : Ctx) (mn : Word) (s : State) : State := (s.ldpWrite mn s.iy).advance c 4

/-- `LDP (mn),IY` without a prefix (R147). -/
def execLdpMmnIY (mn : Word) (s : State) : Result := .next (effLdpMmnIY Ctx.bare mn s)

/-- `LDP HL,(mn)` (41_load_indexed.md R148). -/
def effLdpHLMmn (c : Ctx) (mn : Word) (s : State) : State := (s.setSS false .hl (s.ldpRead mn)).advance c 4

/-- `LDP HL,(mn)` without a prefix (R148). -/
def execLdpHLMmn (mn : Word) (s : State) : Result := .next (effLdpHLMmn Ctx.bare mn s)

/-- `LDP IX,(mn)` (41_load_indexed.md R149). -/
def effLdpIXMmn (c : Ctx) (mn : Word) (s : State) : State := (s.setIX (s.ldpRead mn)).advance c 4

/-- `LDP IX,(mn)` without a prefix (R149). -/
def execLdpIXMmn (mn : Word) (s : State) : Result := .next (effLdpIXMmn Ctx.bare mn s)

/-- `LDP IY,(mn)` (41_load_indexed.md R150). -/
def effLdpIYMmn (c : Ctx) (mn : Word) (s : State) : State := (s.setIY (s.ldpRead mn)).advance c 4

/-- `LDP IY,(mn)` without a prefix (R150). -/
def execLdpIYMmn (mn : Word) (s : State) : Result := .next (effLdpIYMmn Ctx.bare mn s)

end Sys2Proof.Machine
end

