-- ==== Sys2Proof/Machine/LoadImm.lean ====
section
/-!
DEFINITION. Load immediate data; load and store to an immediate address (spec/40_load_immediate_direct.md).
For each row: its effect under a prefix set `c` (30_encoding.md R66), and the meaning of the bare instruction.
-/
namespace Sys2Proof.Machine

/-- `LD IX,mn` (40_load_immediate_direct.md R100). -/
def effLdIXmn (c : Ctx) (mn : Word) (s : State) : State := (s.setIX mn).advance c 4

/-- `LD IX,mn` without a prefix (R100). -/
def execLdIXmn (mn : Word) (s : State) : Result := .next (effLdIXmn Ctx.bare mn s)

/-- `LD IY,mn` (40_load_immediate_direct.md R101). -/
def effLdIYmn (c : Ctx) (mn : Word) (s : State) : State := (s.setIY mn).advance c 4

/-- `LD IY,mn` without a prefix (R101). -/
def execLdIYmn (mn : Word) (s : State) : Result := .next (effLdIYmn Ctx.bare mn s)

/-- `LD dd,mn` (40_load_immediate_direct.md R102). -/
def effLdDDmn (c : Ctx) (dd : SS) (mn : Word) (s : State) : State := (s.setSS c.alt dd mn).advance c 3

/-- `LD dd,mn` without a prefix (R102). -/
def execLdDDmn (dd : SS) (mn : Word) (s : State) : Result := .next (effLdDDmn Ctx.bare dd mn s)

/-- `LD r,n` (40_load_immediate_direct.md R103). -/
def effLdRN (c : Ctx) (r : R8) (n : Byte) (s : State) : State := (s.setR8 c.alt r n).advance c 2

/-- `LD r,n` without a prefix (R103). -/
def execLdRN (r : R8) (n : Byte) (s : State) : Result := .next (effLdRN Ctx.bare r n s)

/-- `LD (mn),A` (40_load_immediate_direct.md R104). -/
def effLdMmnA (c : Ctx) (mn : Word) (s : State) : State := (s.wrD8 c mn s.main.a).advance c 3

/-- `LD (mn),A` without a prefix (R104). -/
def execLdMmnA (mn : Word) (s : State) : Result := .next (effLdMmnA Ctx.bare mn s)

/-- `LD A,(mn)` (40_load_immediate_direct.md R105). -/
def effLdAMmn (c : Ctx) (mn : Word) (s : State) : State := (s.loadR8 c .a mn).advance c 3

/-- `LD A,(mn)` without a prefix (R105). -/
def execLdAMmn (mn : Word) (s : State) : Result := .next (effLdAMmn Ctx.bare mn s)

/-- `LD (mn),HL` (40_load_immediate_direct.md R106). -/
def effLdMmnHL (c : Ctx) (mn : Word) (s : State) : State := (s.wrD16 c mn s.hl).advance c 3

/-- `LD (mn),HL` without a prefix (R106). -/
def execLdMmnHL (mn : Word) (s : State) : Result := .next (effLdMmnHL Ctx.bare mn s)

/-- `LD (mn),IX` (40_load_immediate_direct.md R107). -/
def effLdMmnIX (c : Ctx) (mn : Word) (s : State) : State := (s.wrD16 c mn s.ix).advance c 4

/-- `LD (mn),IX` without a prefix (R107). -/
def execLdMmnIX (mn : Word) (s : State) : Result := .next (effLdMmnIX Ctx.bare mn s)

/-- `LD (mn),IY` (40_load_immediate_direct.md R108). -/
def effLdMmnIY (c : Ctx) (mn : Word) (s : State) : State := (s.wrD16 c mn s.iy).advance c 4

/-- `LD (mn),IY` without a prefix (R108). -/
def execLdMmnIY (mn : Word) (s : State) : Result := .next (effLdMmnIY Ctx.bare mn s)

/-- `LD (mn),ss` (40_load_immediate_direct.md R109). -/
def effLdMmnSS (c : Ctx) (mn : Word) (ss : SS) (s : State) : State := (s.wrD16 c mn (s.getSS ss)).advance c 4

/-- `LD (mn),ss` without a prefix (R109). -/
def execLdMmnSS (mn : Word) (ss : SS) (s : State) : Result := .next (effLdMmnSS Ctx.bare mn ss s)

/-- `LD HL,(mn)` (40_load_immediate_direct.md R110). -/
def effLdHLMmn (c : Ctx) (mn : Word) (s : State) : State := (s.loadSS c .hl mn).advance c 3

/-- `LD HL,(mn)` without a prefix (R110). -/
def execLdHLMmn (mn : Word) (s : State) : Result := .next (effLdHLMmn Ctx.bare mn s)

/-- `LD IX,(mn)` (40_load_immediate_direct.md R111). -/
def effLdIXMmn (c : Ctx) (mn : Word) (s : State) : State := (s.loadIX c mn).advance c 4

/-- `LD IX,(mn)` without a prefix (R111). -/
def execLdIXMmn (mn : Word) (s : State) : Result := .next (effLdIXMmn Ctx.bare mn s)

/-- `LD IY,(mn)` (40_load_immediate_direct.md R112). -/
def effLdIYMmn (c : Ctx) (mn : Word) (s : State) : State := (s.loadIY c mn).advance c 4

/-- `LD IY,(mn)` without a prefix (R112). -/
def execLdIYMmn (mn : Word) (s : State) : Result := .next (effLdIYMmn Ctx.bare mn s)

/-- `LD dd,(mn)` (40_load_immediate_direct.md R113). -/
def effLdDDMmn (c : Ctx) (dd : SS) (mn : Word) (s : State) : State := (s.loadSS c dd mn).advance c 4

/-- `LD dd,(mn)` without a prefix (R113). -/
def execLdDDMmn (dd : SS) (mn : Word) (s : State) : Result := .next (effLdDDMmn Ctx.bare dd mn s)

end Sys2Proof.Machine
end

