-- ==== Sys2Proof/Machine/Misc.lean ====
section
/-!
DEFINITION. Miscellaneous instructions (spec/49_misc_privileged.md).
For each row: its effect under a prefix set `c` (30_encoding.md R66), and the meaning of the bare instruction.
-/
namespace Sys2Proof.Machine

/-- `CCF` (49_misc_privileged.md R337). -/
def effCcf (c : Ctx) (s : State) : State := (s.setFlags c.alt { c := some (!s.carry) }).advance c 1

/-- `CCF` without a prefix (R337). -/
def execCcf (s : State) : Result := .next (effCcf Ctx.bare s)

/-- `IPSET 0` (49_misc_privileged.md R338). -/
def effIpset0 (c : Ctx) (s : State) : State := (s.setIP (ipPush s.ip 0#2)).advancePriv c 2

/-- `IPSET 0` without a prefix (R338). -/
def execIpset0 (s : State) : Result := .next (effIpset0 Ctx.bare s)

/-- `IPSET 1` (49_misc_privileged.md R339). -/
def effIpset1 (c : Ctx) (s : State) : State := (s.setIP (ipPush s.ip 1#2)).advancePriv c 2

/-- `IPSET 1` without a prefix (R339). -/
def execIpset1 (s : State) : Result := .next (effIpset1 Ctx.bare s)

/-- `IPSET 2` (49_misc_privileged.md R340). -/
def effIpset2 (c : Ctx) (s : State) : State := (s.setIP (ipPush s.ip 2#2)).advancePriv c 2

/-- `IPSET 2` without a prefix (R340). -/
def execIpset2 (s : State) : Result := .next (effIpset2 Ctx.bare s)

/-- `IPSET 3` (49_misc_privileged.md R341). -/
def effIpset3 (c : Ctx) (s : State) : State := (s.setIP (ipPush s.ip 3#2)).advancePriv c 2

/-- `IPSET 3` without a prefix (R341). -/
def execIpset3 (s : State) : Result := .next (effIpset3 Ctx.bare s)

/-- `IPRES` (49_misc_privileged.md R342). -/
def effIpres (c : Ctx) (s : State) : State := (s.setIP (ipPop s.ip)).advancePriv c 2

/-- `IPRES` without a prefix (R342). -/
def execIpres (s : State) : Result := .next (effIpres Ctx.bare s)

/-- `NOP` (49_misc_privileged.md R343). -/
def effNop (c : Ctx) (s : State) : State := s.advance c 1

/-- `NOP` without a prefix (R343). -/
def execNop (s : State) : Result := .next (effNop Ctx.bare s)

/-- `SCF` (49_misc_privileged.md R344). -/
def effScf (c : Ctx) (s : State) : State := (s.setFlags c.alt { c := some true }).advance c 1

/-- `SCF` without a prefix (R344). -/
def execScf (s : State) : Result := .next (effScf Ctx.bare s)

end Sys2Proof.Machine
end

