-- ==== Sys2Proof/Machine/Move.lean ====
section
/-!
DEFINITION. Register to register moves, exchanges, stack manipulation (spec/42_move_exchange_stack.md).
For each row: its effect under a prefix set `c` (30_encoding.md R66), and the meaning of the bare instruction.
-/
namespace Sys2Proof.Machine

/-- `LD r,g` (42_move_exchange_stack.md R151). -/
def effLdRG (c : Ctx) (r : R8) (g : R8) (s : State) : State := (s.setR8 c.alt r (s.main.get g)).advance c 1

/-- `LD r,g` without a prefix (R151). -/
def execLdRG (r : R8) (g : R8) (s : State) : Result := .next (effLdRG Ctx.bare r g s)

/-- `LD A,EIR` (42_move_exchange_stack.md R152). -/
def effLdAEIR (c : Ctx) (s : State) : State := ((s.setR8 c.alt .a s.eir).setFlags c.alt (flagsSZ s.eir)).advance c 2

/-- `LD A,EIR` without a prefix (R152). -/
def execLdAEIR (s : State) : Result := .next (effLdAEIR Ctx.bare s)

/-- `LD A,IIR` (42_move_exchange_stack.md R153). -/
def effLdAIIR (c : Ctx) (s : State) : State := ((s.setR8 c.alt .a s.iir).setFlags c.alt (flagsSZ s.iir)).advance c 2

/-- `LD A,IIR` without a prefix (R153). -/
def execLdAIIR (s : State) : Result := .next (effLdAIIR Ctx.bare s)

/-- `LD A,XPC` (42_move_exchange_stack.md R154). -/
def effLdAXPC (c : Ctx) (s : State) : State := (s.setR8 c.alt .a s.xpc).advance c 2

/-- `LD A,XPC` without a prefix (R154). -/
def execLdAXPC (s : State) : Result := .next (effLdAXPC Ctx.bare s)

/-- `LD EIR,A` (42_move_exchange_stack.md R155). -/
def effLdEIRA (c : Ctx) (s : State) : State := (s.setEIR s.main.a).advance c 2

/-- `LD EIR,A` without a prefix (R155). -/
def execLdEIRA (s : State) : Result := .next (effLdEIRA Ctx.bare s)

/-- `LD IIR,A` (42_move_exchange_stack.md R156). -/
def effLdIIRA (c : Ctx) (s : State) : State := (s.setIIR s.main.a).advance c 2

/-- `LD IIR,A` without a prefix (R156). -/
def execLdIIRA (s : State) : Result := .next (effLdIIRA Ctx.bare s)

/-- `LD XPC,A` (42_move_exchange_stack.md R157). -/
def effLdXPCA (c : Ctx) (s : State) : State := (s.setXPC s.main.a).advancePriv c 2

/-- `LD XPC,A` without a prefix (R157). -/
def execLdXPCA (s : State) : Result := .next (effLdXPCA Ctx.bare s)

/-- `LD HL,IX` (42_move_exchange_stack.md R158). -/
def effLdHLIX (c : Ctx) (s : State) : State := (s.setSS c.alt .hl s.ix).advance c 2

/-- `LD HL,IX` without a prefix (R158). -/
def execLdHLIX (s : State) : Result := .next (effLdHLIX Ctx.bare s)

/-- `LD HL,IY` (42_move_exchange_stack.md R159). -/
def effLdHLIY (c : Ctx) (s : State) : State := (s.setSS c.alt .hl s.iy).advance c 2

/-- `LD HL,IY` without a prefix (R159). -/
def execLdHLIY (s : State) : Result := .next (effLdHLIY Ctx.bare s)

/-- `LD IX,HL` (42_move_exchange_stack.md R160). -/
def effLdIXHL (c : Ctx) (s : State) : State := (s.setIX s.hl).advance c 2

/-- `LD IX,HL` without a prefix (R160). -/
def execLdIXHL (s : State) : Result := .next (effLdIXHL Ctx.bare s)

/-- `LD IY,HL` (42_move_exchange_stack.md R161). -/
def effLdIYHL (c : Ctx) (s : State) : State := (s.setIY s.hl).advance c 2

/-- `LD IY,HL` without a prefix (R161). -/
def execLdIYHL (s : State) : Result := .next (effLdIYHL Ctx.bare s)

/-- `LD SP,HL` (42_move_exchange_stack.md R162). -/
def effLdSPHL (c : Ctx) (s : State) : State := (s.setSP s.hl).advancePriv c 1

/-- `LD SP,HL` without a prefix (R162). -/
def execLdSPHL (s : State) : Result := .next (effLdSPHL Ctx.bare s)

/-- `LD SP,IX` (42_move_exchange_stack.md R163). -/
def effLdSPIX (c : Ctx) (s : State) : State := (s.setSP s.ix).advancePriv c 2

/-- `LD SP,IX` without a prefix (R163). -/
def execLdSPIX (s : State) : Result := .next (effLdSPIX Ctx.bare s)

/-- `LD SP,IY` (42_move_exchange_stack.md R164). -/
def effLdSPIY (c : Ctx) (s : State) : State := (s.setSP s.iy).advancePriv c 2

/-- `LD SP,IY` without a prefix (R164). -/
def execLdSPIY (s : State) : Result := .next (effLdSPIY Ctx.bare s)

/-- `LD dd',BC` (42_move_exchange_stack.md R165). -/
def effLdDDaBC (c : Ctx) (dd : DDa) (s : State) : State := (s.setDDa dd s.bc).advance c 2

/-- `LD dd',BC` without a prefix (R165). -/
def execLdDDaBC (dd : DDa) (s : State) : Result := .next (effLdDDaBC Ctx.bare dd s)

/-- `LD dd',DE` (42_move_exchange_stack.md R166). -/
def effLdDDaDE (c : Ctx) (dd : DDa) (s : State) : State := (s.setDDa dd s.de).advance c 2

/-- `LD dd',DE` without a prefix (R166). -/
def execLdDDaDE (dd : DDa) (s : State) : Result := .next (effLdDDaDE Ctx.bare dd s)

/-- `EX (SP),HL` (42_move_exchange_stack.md R167). -/
def effExMspHL (c : Ctx) (s : State) : State := ((s.wrMem16 s.sp s.hl).setSS c.alt .hl (s.mem16 s.sp)).advance c 2

/-- `EX (SP),HL` without a prefix (R167). -/
def execExMspHL (s : State) : Result := .next (effExMspHL Ctx.bare s)

/-- `EX (SP),IX` (42_move_exchange_stack.md R168). -/
def effExMspIX (c : Ctx) (s : State) : State := ((s.wrMem16 s.sp s.ix).setIX (s.mem16 s.sp)).advance c 2

/-- `EX (SP),IX` without a prefix (R168). -/
def execExMspIX (s : State) : Result := .next (effExMspIX Ctx.bare s)

/-- `EX (SP),IY` (42_move_exchange_stack.md R169). -/
def effExMspIY (c : Ctx) (s : State) : State := ((s.wrMem16 s.sp s.iy).setIY (s.mem16 s.sp)).advance c 2

/-- `EX (SP),IY` without a prefix (R169). -/
def execExMspIY (s : State) : Result := .next (effExMspIY Ctx.bare s)

/-- `EX AF,AF'` (42_move_exchange_stack.md R170). -/
def effExAF (c : Ctx) (s : State) : State := ((s.setZZ false .af s.alt.af).setZZ true .af s.main.af).advance c 1

/-- `EX AF,AF'` without a prefix (R170). -/
def execExAF (s : State) : Result := .next (effExAF Ctx.bare s)

/-- `EX DE',HL` (42_move_exchange_stack.md R171). -/
def effExDEaHL (c : Ctx) (s : State) : State := (s.exchangeDEa c.alt).advance c 1

/-- `EX DE',HL` without a prefix (R171). -/
def execExDEaHL (s : State) : Result := .next (effExDEaHL Ctx.bare s)

/-- `EX DE',HL'` (42_move_exchange_stack.md R172). -/
def effExDEaHLa (c : Ctx) (s : State) : State := (s.exchangeDEa true).advance c 2

/-- `EX DE',HL'` without a prefix (R172). -/
def execExDEaHLa (s : State) : Result := .next (effExDEaHLa Ctx.bare s)

/-- `EX DE,HL` (42_move_exchange_stack.md R173). -/
def effExDEHL (c : Ctx) (s : State) : State := (s.exchangeDE c.alt).advance c 1

/-- `EX DE,HL` without a prefix (R173). -/
def execExDEHL (s : State) : Result := .next (effExDEHL Ctx.bare s)

/-- `EX DE,HL'` (42_move_exchange_stack.md R174). -/
def effExDEHLa (c : Ctx) (s : State) : State := (s.exchangeDE true).advance c 2

/-- `EX DE,HL'` without a prefix (R174). -/
def execExDEHLa (s : State) : Result := .next (effExDEHLa Ctx.bare s)

/-- `EXX` (42_move_exchange_stack.md R175). -/
def effExx (c : Ctx) (s : State) : State := s.exchangeGeneral.advance c 1

/-- `EXX` without a prefix (R175). -/
def execExx (s : State) : Result := .next (effExx Ctx.bare s)

/-- `ADD SP,d` (42_move_exchange_stack.md R176). -/
def effAddSPd (c : Ctx) (d : Byte) (s : State) : State :=
  ((s.setSP (sumRes s.sp (Config.spDisplacement d) false)).setFlags c.alt
    { c := some (sumCarry s.sp (Config.spDisplacement d) false) }).advance c 2

/-- `ADD SP,d` without a prefix (R176). -/
def execAddSPd (d : Byte) (s : State) : Result := .next (effAddSPd Ctx.bare d s)

/-- `POP IP` (42_move_exchange_stack.md R177). -/
def effPopIP (c : Ctx) (s : State) : State := ((s.setIP (s.mem8 s.sp)).setSP (s.sp + 1)).advancePriv c 2

/-- `POP IP` without a prefix (R177). -/
def execPopIP (s : State) : Result := .next (effPopIP Ctx.bare s)

/-- `POP IX` (42_move_exchange_stack.md R178). -/
def effPopIX (c : Ctx) (s : State) : State := ((s.setIX (s.mem16 s.sp)).setSP (s.sp + 2)).advance c 2

/-- `POP IX` without a prefix (R178). -/
def execPopIX (s : State) : Result := .next (effPopIX Ctx.bare s)

/-- `POP IY` (42_move_exchange_stack.md R179). -/
def effPopIY (c : Ctx) (s : State) : State := ((s.setIY (s.mem16 s.sp)).setSP (s.sp + 2)).advance c 2

/-- `POP IY` without a prefix (R179). -/
def execPopIY (s : State) : Result := .next (effPopIY Ctx.bare s)

/-- `POP zz` (42_move_exchange_stack.md R180). -/
def effPopZZ (c : Ctx) (zz : ZZ) (s : State) : State := ((s.setZZ c.alt zz (s.mem16 s.sp)).setSP (s.sp + 2)).advance c 1

/-- `POP zz` without a prefix (R180). -/
def execPopZZ (zz : ZZ) (s : State) : Result := .next (effPopZZ Ctx.bare zz s)

/-- `PUSH IP` (42_move_exchange_stack.md R181). -/
def effPushIP (c : Ctx) (s : State) : State := (s.push8 s.ip).advance c 2

/-- `PUSH IP` without a prefix (R181). -/
def execPushIP (s : State) : Result := .next (effPushIP Ctx.bare s)

/-- `PUSH IX` (42_move_exchange_stack.md R182). -/
def effPushIX (c : Ctx) (s : State) : State := (s.push16 s.ix).advance c 2

/-- `PUSH IX` without a prefix (R182). -/
def execPushIX (s : State) : Result := .next (effPushIX Ctx.bare s)

/-- `PUSH IY` (42_move_exchange_stack.md R183). -/
def effPushIY (c : Ctx) (s : State) : State := (s.push16 s.iy).advance c 2

/-- `PUSH IY` without a prefix (R183). -/
def execPushIY (s : State) : Result := .next (effPushIY Ctx.bare s)

/-- `PUSH zz` (42_move_exchange_stack.md R184). -/
def effPushZZ (c : Ctx) (zz : ZZ) (s : State) : State := ((s.push16 (s.pushedZZ zz)).afterPush zz).advance c 1

/-- `PUSH zz` without a prefix (R184). -/
def execPushZZ (zz : ZZ) (s : State) : Result := .next (effPushZZ Ctx.bare zz s)

end Sys2Proof.Machine
end

