-- ==== Sys2Proof/Machine/Shift.lean ====
section
/-!
DEFINITION. 8-bit shifts and rotates (spec/46_shift_rotate.md).
For each row: its effect under a prefix set `c` (30_encoding.md R66), and the meaning of the bare instruction.
-/
namespace Sys2Proof.Machine

/-- `RL (HL)` (46_shift_rotate.md R283). -/
def effRlMhl (c : Ctx) (s : State) : State := (s.shiftMem c .rl s.hl).advance c 2

/-- `RL (HL)` without a prefix (R283). -/
def execRlMhl (s : State) : Result := .next (effRlMhl Ctx.bare s)

/-- `RL (IX+d)` (46_shift_rotate.md R284). -/
def effRlMix (c : Ctx) (d : Byte) (s : State) : State := (s.shiftMem c .rl (s.eaIX d)).advance c 4

/-- `RL (IX+d)` without a prefix (R284). -/
def execRlMix (d : Byte) (s : State) : Result := .next (effRlMix Ctx.bare d s)

/-- `RL (IY+d)` (46_shift_rotate.md R285). -/
def effRlMiy (c : Ctx) (d : Byte) (s : State) : State := (s.shiftMem c .rl (s.eaIY d)).advance c 4

/-- `RL (IY+d)` without a prefix (R285). -/
def execRlMiy (d : Byte) (s : State) : Result := .next (effRlMiy Ctx.bare d s)

/-- `RL r` (46_shift_rotate.md R286). -/
def effRlR (c : Ctx) (r : R8) (s : State) : State :=
  ((s.setR8 c.alt r (shiftRes .rl (s.main.get r) s.carry)).setFlags c.alt
    (flagsShift .rl (s.main.get r) s.carry)).advance c 2

/-- `RL r` without a prefix (R286). -/
def execRlR (r : R8) (s : State) : Result := .next (effRlR Ctx.bare r s)

/-- `RLC (HL)` (46_shift_rotate.md R287). -/
def effRlcMhl (c : Ctx) (s : State) : State := (s.shiftMem c .rlc s.hl).advance c 2

/-- `RLC (HL)` without a prefix (R287). -/
def execRlcMhl (s : State) : Result := .next (effRlcMhl Ctx.bare s)

/-- `RLC (IX+d)` (46_shift_rotate.md R288). -/
def effRlcMix (c : Ctx) (d : Byte) (s : State) : State := (s.shiftMem c .rlc (s.eaIX d)).advance c 4

/-- `RLC (IX+d)` without a prefix (R288). -/
def execRlcMix (d : Byte) (s : State) : Result := .next (effRlcMix Ctx.bare d s)

/-- `RLC (IY+d)` (46_shift_rotate.md R289). -/
def effRlcMiy (c : Ctx) (d : Byte) (s : State) : State := (s.shiftMem c .rlc (s.eaIY d)).advance c 4

/-- `RLC (IY+d)` without a prefix (R289). -/
def execRlcMiy (d : Byte) (s : State) : Result := .next (effRlcMiy Ctx.bare d s)

/-- `RLC r` (46_shift_rotate.md R290). -/
def effRlcR (c : Ctx) (r : R8) (s : State) : State :=
  ((s.setR8 c.alt r (shiftRes .rlc (s.main.get r) s.carry)).setFlags c.alt
    (flagsShift .rlc (s.main.get r) s.carry)).advance c 2

/-- `RLC r` without a prefix (R290). -/
def execRlcR (r : R8) (s : State) : Result := .next (effRlcR Ctx.bare r s)

/-- `RR (HL)` (46_shift_rotate.md R291). -/
def effRrMhl (c : Ctx) (s : State) : State := (s.shiftMem c .rr s.hl).advance c 2

/-- `RR (HL)` without a prefix (R291). -/
def execRrMhl (s : State) : Result := .next (effRrMhl Ctx.bare s)

/-- `RR (IX+d)` (46_shift_rotate.md R292). -/
def effRrMix (c : Ctx) (d : Byte) (s : State) : State := (s.shiftMem c .rr (s.eaIX d)).advance c 4

/-- `RR (IX+d)` without a prefix (R292). -/
def execRrMix (d : Byte) (s : State) : Result := .next (effRrMix Ctx.bare d s)

/-- `RR (IY+d)` (46_shift_rotate.md R293). -/
def effRrMiy (c : Ctx) (d : Byte) (s : State) : State := (s.shiftMem c .rr (s.eaIY d)).advance c 4

/-- `RR (IY+d)` without a prefix (R293). -/
def execRrMiy (d : Byte) (s : State) : Result := .next (effRrMiy Ctx.bare d s)

/-- `RR r` (46_shift_rotate.md R294). -/
def effRrR (c : Ctx) (r : R8) (s : State) : State :=
  ((s.setR8 c.alt r (shiftRes .rr (s.main.get r) s.carry)).setFlags c.alt
    (flagsShift .rr (s.main.get r) s.carry)).advance c 2

/-- `RR r` without a prefix (R294). -/
def execRrR (r : R8) (s : State) : Result := .next (effRrR Ctx.bare r s)

/-- `RRC (HL)` (46_shift_rotate.md R295). -/
def effRrcMhl (c : Ctx) (s : State) : State := (s.shiftMem c .rrc s.hl).advance c 2

/-- `RRC (HL)` without a prefix (R295). -/
def execRrcMhl (s : State) : Result := .next (effRrcMhl Ctx.bare s)

/-- `RRC (IX+d)` (46_shift_rotate.md R296). -/
def effRrcMix (c : Ctx) (d : Byte) (s : State) : State := (s.shiftMem c .rrc (s.eaIX d)).advance c 4

/-- `RRC (IX+d)` without a prefix (R296). -/
def execRrcMix (d : Byte) (s : State) : Result := .next (effRrcMix Ctx.bare d s)

/-- `RRC (IY+d)` (46_shift_rotate.md R297). -/
def effRrcMiy (c : Ctx) (d : Byte) (s : State) : State := (s.shiftMem c .rrc (s.eaIY d)).advance c 4

/-- `RRC (IY+d)` without a prefix (R297). -/
def execRrcMiy (d : Byte) (s : State) : Result := .next (effRrcMiy Ctx.bare d s)

/-- `RRC r` (46_shift_rotate.md R298). -/
def effRrcR (c : Ctx) (r : R8) (s : State) : State :=
  ((s.setR8 c.alt r (shiftRes .rrc (s.main.get r) s.carry)).setFlags c.alt
    (flagsShift .rrc (s.main.get r) s.carry)).advance c 2

/-- `RRC r` without a prefix (R298). -/
def execRrcR (r : R8) (s : State) : Result := .next (effRrcR Ctx.bare r s)

/-- `SLA (HL)` (46_shift_rotate.md R299). -/
def effSlaMhl (c : Ctx) (s : State) : State := (s.shiftMem c .sla s.hl).advance c 2

/-- `SLA (HL)` without a prefix (R299). -/
def execSlaMhl (s : State) : Result := .next (effSlaMhl Ctx.bare s)

/-- `SLA (IX+d)` (46_shift_rotate.md R300). -/
def effSlaMix (c : Ctx) (d : Byte) (s : State) : State := (s.shiftMem c .sla (s.eaIX d)).advance c 4

/-- `SLA (IX+d)` without a prefix (R300). -/
def execSlaMix (d : Byte) (s : State) : Result := .next (effSlaMix Ctx.bare d s)

/-- `SLA (IY+d)` (46_shift_rotate.md R301). -/
def effSlaMiy (c : Ctx) (d : Byte) (s : State) : State := (s.shiftMem c .sla (s.eaIY d)).advance c 4

/-- `SLA (IY+d)` without a prefix (R301). -/
def execSlaMiy (d : Byte) (s : State) : Result := .next (effSlaMiy Ctx.bare d s)

/-- `SLA r` (46_shift_rotate.md R302). -/
def effSlaR (c : Ctx) (r : R8) (s : State) : State :=
  ((s.setR8 c.alt r (shiftRes .sla (s.main.get r) s.carry)).setFlags c.alt
    (flagsShift .sla (s.main.get r) s.carry)).advance c 2

/-- `SLA r` without a prefix (R302). -/
def execSlaR (r : R8) (s : State) : Result := .next (effSlaR Ctx.bare r s)

/-- `SRA (HL)` (46_shift_rotate.md R303). -/
def effSraMhl (c : Ctx) (s : State) : State := (s.shiftMem c .sra s.hl).advance c 2

/-- `SRA (HL)` without a prefix (R303). -/
def execSraMhl (s : State) : Result := .next (effSraMhl Ctx.bare s)

/-- `SRA (IX+d)` (46_shift_rotate.md R304). -/
def effSraMix (c : Ctx) (d : Byte) (s : State) : State := (s.shiftMem c .sra (s.eaIX d)).advance c 4

/-- `SRA (IX+d)` without a prefix (R304). -/
def execSraMix (d : Byte) (s : State) : Result := .next (effSraMix Ctx.bare d s)

/-- `SRA (IY+d)` (46_shift_rotate.md R305). -/
def effSraMiy (c : Ctx) (d : Byte) (s : State) : State := (s.shiftMem c .sra (s.eaIY d)).advance c 4

/-- `SRA (IY+d)` without a prefix (R305). -/
def execSraMiy (d : Byte) (s : State) : Result := .next (effSraMiy Ctx.bare d s)

/-- `SRA r` (46_shift_rotate.md R306). -/
def effSraR (c : Ctx) (r : R8) (s : State) : State :=
  ((s.setR8 c.alt r (shiftRes .sra (s.main.get r) s.carry)).setFlags c.alt
    (flagsShift .sra (s.main.get r) s.carry)).advance c 2

/-- `SRA r` without a prefix (R306). -/
def execSraR (r : R8) (s : State) : Result := .next (effSraR Ctx.bare r s)

/-- `SRL (HL)` (46_shift_rotate.md R307). -/
def effSrlMhl (c : Ctx) (s : State) : State := (s.shiftMem c .srl s.hl).advance c 2

/-- `SRL (HL)` without a prefix (R307). -/
def execSrlMhl (s : State) : Result := .next (effSrlMhl Ctx.bare s)

/-- `SRL (IX+d)` (46_shift_rotate.md R308). -/
def effSrlMix (c : Ctx) (d : Byte) (s : State) : State := (s.shiftMem c .srl (s.eaIX d)).advance c 4

/-- `SRL (IX+d)` without a prefix (R308). -/
def execSrlMix (d : Byte) (s : State) : Result := .next (effSrlMix Ctx.bare d s)

/-- `SRL (IY+d)` (46_shift_rotate.md R309). -/
def effSrlMiy (c : Ctx) (d : Byte) (s : State) : State := (s.shiftMem c .srl (s.eaIY d)).advance c 4

/-- `SRL (IY+d)` without a prefix (R309). -/
def execSrlMiy (d : Byte) (s : State) : Result := .next (effSrlMiy Ctx.bare d s)

/-- `SRL r` (46_shift_rotate.md R310). -/
def effSrlR (c : Ctx) (r : R8) (s : State) : State :=
  ((s.setR8 c.alt r (shiftRes .srl (s.main.get r) s.carry)).setFlags c.alt
    (flagsShift .srl (s.main.get r) s.carry)).advance c 2

/-- `SRL r` without a prefix (R310). -/
def execSrlR (r : R8) (s : State) : Result := .next (effSrlR Ctx.bare r s)

end Sys2Proof.Machine
end

