-- ==== Sys2Proof/Machine/Prefixes.lean ====
section
/-!
DEFINITION. Prefixed instructions (spec/47_prefix_block.md R311 to R313, 30_encoding.md R66): the effect of an
instruction under a prefix set, and the meaning of each prefix row together with the instruction it stands before.
-/
namespace Sys2Proof.Machine

/-- The effect of an instruction under the prefix set `c`: a prefix adds its byte and what it selects, and every other
row has its own effect (30_encoding.md R66). -/
def runIn : Instr → Ctx → State → State
  | .ldIXmn mn, c, s => effLdIXmn c mn s
  | .ldIYmn mn, c, s => effLdIYmn c mn s
  | .ldDDmn dd mn, c, s => effLdDDmn c dd mn s
  | .ldRN r n, c, s => effLdRN c r n s
  | .ldMmnA mn, c, s => effLdMmnA c mn s
  | .ldAMmn mn, c, s => effLdAMmn c mn s
  | .ldMmnHL mn, c, s => effLdMmnHL c mn s
  | .ldMmnIX mn, c, s => effLdMmnIX c mn s
  | .ldMmnIY mn, c, s => effLdMmnIY c mn s
  | .ldMmnSS mn ss, c, s => effLdMmnSS c mn ss s
  | .ldHLMmn mn, c, s => effLdHLMmn c mn s
  | .ldIXMmn mn, c, s => effLdIXMmn c mn s
  | .ldIYMmn mn, c, s => effLdIYMmn c mn s
  | .ldDDMmn dd mn, c, s => effLdDDMmn c dd mn s
  | .ldAMbc, c, s => effLdAMbc c s
  | .ldAMde, c, s => effLdAMde c s
  | .ldMbcA, c, s => effLdMbcA c s
  | .ldMdeA, c, s => effLdMdeA c s
  | .ldMhlN n, c, s => effLdMhlN c n s
  | .ldMhlR r, c, s => effLdMhlR c r s
  | .ldRMhl r, c, s => effLdRMhl c r s
  | .ldMixN d n, c, s => effLdMixN c d n s
  | .ldMixR d r, c, s => effLdMixR c d r s
  | .ldRMix r d, c, s => effLdRMix c r d s
  | .ldMiyN d n, c, s => effLdMiyN c d n s
  | .ldMiyR d r, c, s => effLdMiyR c d r s
  | .ldRMiy r d, c, s => effLdRMiy c r d s
  | .ldMhldHL d, c, s => effLdMhldHL c d s
  | .ldHLMhld d, c, s => effLdHLMhld c d s
  | .ldMspHL n, c, s => effLdMspHL c n s
  | .ldMspIX n, c, s => effLdMspIX c n s
  | .ldMspIY n, c, s => effLdMspIY c n s
  | .ldHLMsp n, c, s => effLdHLMsp c n s
  | .ldIXMsp n, c, s => effLdIXMsp c n s
  | .ldIYMsp n, c, s => effLdIYMsp c n s
  | .ldMixHL d, c, s => effLdMixHL c d s
  | .ldHLMix d, c, s => effLdHLMix c d s
  | .ldMiyHL d, c, s => effLdMiyHL c d s
  | .ldHLMiy d, c, s => effLdHLMiy c d s
  | .ldpMhlHL, c, s => effLdpMhlHL c s
  | .ldpMixHL, c, s => effLdpMixHL c s
  | .ldpMiyHL, c, s => effLdpMiyHL c s
  | .ldpHLMhl, c, s => effLdpHLMhl c s
  | .ldpHLMix, c, s => effLdpHLMix c s
  | .ldpHLMiy, c, s => effLdpHLMiy c s
  | .ldpMmnHL mn, c, s => effLdpMmnHL c mn s
  | .ldpMmnIX mn, c, s => effLdpMmnIX c mn s
  | .ldpMmnIY mn, c, s => effLdpMmnIY c mn s
  | .ldpHLMmn mn, c, s => effLdpHLMmn c mn s
  | .ldpIXMmn mn, c, s => effLdpIXMmn c mn s
  | .ldpIYMmn mn, c, s => effLdpIYMmn c mn s
  | .ldRG r g, c, s => effLdRG c r g s
  | .ldAEIR, c, s => effLdAEIR c s
  | .ldAIIR, c, s => effLdAIIR c s
  | .ldAXPC, c, s => effLdAXPC c s
  | .ldEIRA, c, s => effLdEIRA c s
  | .ldIIRA, c, s => effLdIIRA c s
  | .ldXPCA, c, s => effLdXPCA c s
  | .ldHLIX, c, s => effLdHLIX c s
  | .ldHLIY, c, s => effLdHLIY c s
  | .ldIXHL, c, s => effLdIXHL c s
  | .ldIYHL, c, s => effLdIYHL c s
  | .ldSPHL, c, s => effLdSPHL c s
  | .ldSPIX, c, s => effLdSPIX c s
  | .ldSPIY, c, s => effLdSPIY c s
  | .ldDDaBC dd, c, s => effLdDDaBC c dd s
  | .ldDDaDE dd, c, s => effLdDDaDE c dd s
  | .exMspHL, c, s => effExMspHL c s
  | .exMspIX, c, s => effExMspIX c s
  | .exMspIY, c, s => effExMspIY c s
  | .exAF, c, s => effExAF c s
  | .exDEaHL, c, s => effExDEaHL c s
  | .exDEaHLa, c, s => effExDEaHLa c s
  | .exDEHL, c, s => effExDEHL c s
  | .exDEHLa, c, s => effExDEHLa c s
  | .exx, c, s => effExx c s
  | .addSPd d, c, s => effAddSPd c d s
  | .popIP, c, s => effPopIP c s
  | .popIX, c, s => effPopIX c s
  | .popIY, c, s => effPopIY c s
  | .popZZ zz, c, s => effPopZZ c zz s
  | .pushIP, c, s => effPushIP c s
  | .pushIX, c, s => effPushIX c s
  | .pushIY, c, s => effPushIY c s
  | .pushZZ zz, c, s => effPushZZ c zz s
  | .adcHLss ss, c, s => effAdcHLss c ss s
  | .addHLss ss, c, s => effAddHLss c ss s
  | .addIXxx xx, c, s => effAddIXxx c xx s
  | .addIYyy yy, c, s => effAddIYyy c yy s
  | .andHLDE, c, s => effAndHLDE c s
  | .andIXDE, c, s => effAndIXDE c s
  | .andIYDE, c, s => effAndIYDE c s
  | .boolHL, c, s => effBoolHL c s
  | .boolIX, c, s => effBoolIX c s
  | .boolIY, c, s => effBoolIY c s
  | .decIX, c, s => effDecIX c s
  | .decIY, c, s => effDecIY c s
  | .decSS ss, c, s => effDecSS c ss s
  | .incIX, c, s => effIncIX c s
  | .incIY, c, s => effIncIY c s
  | .incSS ss, c, s => effIncSS c ss s
  | .mul, c, s => effMul c s
  | .orHLDE, c, s => effOrHLDE c s
  | .orIXDE, c, s => effOrIXDE c s
  | .orIYDE, c, s => effOrIYDE c s
  | .rlDE, c, s => effRlDE c s
  | .rrDE, c, s => effRrDE c s
  | .rrHL, c, s => effRrHL c s
  | .rrIX, c, s => effRrIX c s
  | .rrIY, c, s => effRrIY c s
  | .sbcHLss ss, c, s => effSbcHLss c ss s
  | .adcMhl, c, s => effAdcMhl c s
  | .adcMix d, c, s => effAdcMix c d s
  | .adcMiy d, c, s => effAdcMiy c d s
  | .adcN n, c, s => effAdcN c n s
  | .adcR r, c, s => effAdcR c r s
  | .addMhl, c, s => effAddMhl c s
  | .addMix d, c, s => effAddMix c d s
  | .addMiy d, c, s => effAddMiy c d s
  | .addN n, c, s => effAddN c n s
  | .addR r, c, s => effAddR c r s
  | .andMhl, c, s => effAndMhl c s
  | .andMix d, c, s => effAndMix c d s
  | .andMiy d, c, s => effAndMiy c d s
  | .andN n, c, s => effAndN c n s
  | .andR r, c, s => effAndR c r s
  | .cpMhl, c, s => effCpMhl c s
  | .cpMix d, c, s => effCpMix c d s
  | .cpMiy d, c, s => effCpMiy c d s
  | .cpN n, c, s => effCpN c n s
  | .cpR r, c, s => effCpR c r s
  | .orMhl, c, s => effOrMhl c s
  | .orMix d, c, s => effOrMix c d s
  | .orMiy d, c, s => effOrMiy c d s
  | .orN n, c, s => effOrN c n s
  | .orR r, c, s => effOrR c r s
  | .sbcMix d, c, s => effSbcMix c d s
  | .sbcMiy d, c, s => effSbcMiy c d s
  | .sbcMhl, c, s => effSbcMhl c s
  | .sbcN n, c, s => effSbcN c n s
  | .sbcR r, c, s => effSbcR c r s
  | .subMhl, c, s => effSubMhl c s
  | .subMix d, c, s => effSubMix c d s
  | .subMiy d, c, s => effSubMiy c d s
  | .subN n, c, s => effSubN c n s
  | .subR r, c, s => effSubR c r s
  | .xorMhl, c, s => effXorMhl c s
  | .xorMix d, c, s => effXorMix c d s
  | .xorMiy d, c, s => effXorMiy c d s
  | .xorN n, c, s => effXorN c n s
  | .xorR r, c, s => effXorR c r s
  | .bitMhl b, c, s => effBitMhl c b s
  | .bitMix b d, c, s => effBitMix c b d s
  | .bitMiy b d, c, s => effBitMiy c b d s
  | .bitR b r, c, s => effBitR c b r s
  | .resMhl b, c, s => effResMhl c b s
  | .resMix b d, c, s => effResMix c b d s
  | .resMiy b d, c, s => effResMiy c b d s
  | .resR b r, c, s => effResR c b r s
  | .setMhl b, c, s => effSetMhl c b s
  | .setMix b d, c, s => effSetMix c b d s
  | .setMiy b d, c, s => effSetMiy c b d s
  | .setR b r, c, s => effSetR c b r s
  | .decMhl, c, s => effDecMhl c s
  | .decMix d, c, s => effDecMix c d s
  | .decMiy d, c, s => effDecMiy c d s
  | .decR r, c, s => effDecR c r s
  | .incMhl, c, s => effIncMhl c s
  | .incMix d, c, s => effIncMix c d s
  | .incMiy d, c, s => effIncMiy c d s
  | .incR r, c, s => effIncR c r s
  | .cpl, c, s => effCpl c s
  | .neg, c, s => effNeg c s
  | .rla, c, s => effRla c s
  | .rlca, c, s => effRlca c s
  | .rra, c, s => effRra c s
  | .rrca, c, s => effRrca c s
  | .rlMhl, c, s => effRlMhl c s
  | .rlMix d, c, s => effRlMix c d s
  | .rlMiy d, c, s => effRlMiy c d s
  | .rlR r, c, s => effRlR c r s
  | .rlcMhl, c, s => effRlcMhl c s
  | .rlcMix d, c, s => effRlcMix c d s
  | .rlcMiy d, c, s => effRlcMiy c d s
  | .rlcR r, c, s => effRlcR c r s
  | .rrMhl, c, s => effRrMhl c s
  | .rrMix d, c, s => effRrMix c d s
  | .rrMiy d, c, s => effRrMiy c d s
  | .rrR r, c, s => effRrR c r s
  | .rrcMhl, c, s => effRrcMhl c s
  | .rrcMix d, c, s => effRrcMix c d s
  | .rrcMiy d, c, s => effRrcMiy c d s
  | .rrcR r, c, s => effRrcR c r s
  | .slaMhl, c, s => effSlaMhl c s
  | .slaMix d, c, s => effSlaMix c d s
  | .slaMiy d, c, s => effSlaMiy c d s
  | .slaR r, c, s => effSlaR c r s
  | .sraMhl, c, s => effSraMhl c s
  | .sraMix d, c, s => effSraMix c d s
  | .sraMiy d, c, s => effSraMiy c d s
  | .sraR r, c, s => effSraR c r s
  | .srlMhl, c, s => effSrlMhl c s
  | .srlMix d, c, s => effSrlMix c d s
  | .srlMiy d, c, s => effSrlMiy c d s
  | .srlR r, c, s => effSrlR c r s
  | .altd j, c, s => runIn j c.withAlt s
  | .ioe j, c, s => runIn j (c.withIo .ext) s
  | .ioi j, c, s => runIn j (c.withIo .int) s
  | .ldd, c, s => effLdd c s
  | .lddr, c, s => effLddr c s
  | .ldi, c, s => effLdi c s
  | .ldir, c, s => effLdir c s
  | .callMn mn, c, s => effCallMn c mn s
  | .djnz e, c, s => effDjnz c e s
  | .jpHL, c, s => effJpHL c s
  | .jpIX, c, s => effJpIX c s
  | .jpIY, c, s => effJpIY c s
  | .jpF f mn, c, s => effJpF c f mn s
  | .jpMn mn, c, s => effJpMn c mn s
  | .jrCC cc e, c, s => effJrCC c cc e s
  | .jrE e, c, s => effJrE c e s
  | .lcall x mn, c, s => effLcall c x mn s
  | .ljp x mn, c, s => effLjp c x mn s
  | .lret, c, s => effLret c s
  | .ret, c, s => effRet c s
  | .retF f, c, s => effRetF c f s
  | .reti, c, s => effReti c s
  | .rst v, c, s => effRst c v s
  | .ccf, c, s => effCcf c s
  | .ipset0, c, s => effIpset0 c s
  | .ipset1, c, s => effIpset1 c s
  | .ipset2, c, s => effIpset2 c s
  | .ipset3, c, s => effIpset3 c s
  | .ipres, c, s => effIpres c s
  | .nop, c, s => effNop c s
  | .scf, c, s => effScf c s

/-- `ALTD` and the instruction after it (47_prefix_block.md R311). -/
def execAltd (j : Instr) (s : State) : Result := .next (runIn j Ctx.bare.withAlt s)

/-- `IOE` and the instruction after it (47_prefix_block.md R312). -/
def execIoe (j : Instr) (s : State) : Result := .next (runIn j (Ctx.bare.withIo .ext) s)

/-- `IOI` and the instruction after it (47_prefix_block.md R313). -/
def execIoi (j : Instr) (s : State) : Result := .next (runIn j (Ctx.bare.withIo .int) s)

end Sys2Proof.Machine
end

