-- ==== Sys2Proof/Machine/Dispatch.lean ====
section
/-! DEFINITION. One arm for each row of spec/opcode_table.json: the meaning of each instruction. -/
namespace Sys2Proof.Machine

/-- The outcome of one instruction, before the boundary that follows it. -/
def exec (i : Instr) (s : State) : Host.Outcome State Fault Refusal :=
  match i with
  | .ldIXmn mn => Sys2Proof.Machine.execLdIXmn mn s
  | .ldIYmn mn => Sys2Proof.Machine.execLdIYmn mn s
  | .ldDDmn dd mn => Sys2Proof.Machine.execLdDDmn dd mn s
  | .ldRN r n => Sys2Proof.Machine.execLdRN r n s
  | .ldMmnA mn => Sys2Proof.Machine.execLdMmnA mn s
  | .ldAMmn mn => Sys2Proof.Machine.execLdAMmn mn s
  | .ldMmnHL mn => Sys2Proof.Machine.execLdMmnHL mn s
  | .ldMmnIX mn => Sys2Proof.Machine.execLdMmnIX mn s
  | .ldMmnIY mn => Sys2Proof.Machine.execLdMmnIY mn s
  | .ldMmnSS mn ss => Sys2Proof.Machine.execLdMmnSS mn ss s
  | .ldHLMmn mn => Sys2Proof.Machine.execLdHLMmn mn s
  | .ldIXMmn mn => Sys2Proof.Machine.execLdIXMmn mn s
  | .ldIYMmn mn => Sys2Proof.Machine.execLdIYMmn mn s
  | .ldDDMmn dd mn => Sys2Proof.Machine.execLdDDMmn dd mn s
  | .ldAMbc => Sys2Proof.Machine.execLdAMbc s
  | .ldAMde => Sys2Proof.Machine.execLdAMde s
  | .ldMbcA => Sys2Proof.Machine.execLdMbcA s
  | .ldMdeA => Sys2Proof.Machine.execLdMdeA s
  | .ldMhlN n => Sys2Proof.Machine.execLdMhlN n s
  | .ldMhlR r => Sys2Proof.Machine.execLdMhlR r s
  | .ldRMhl r => Sys2Proof.Machine.execLdRMhl r s
  | .ldMixN d n => Sys2Proof.Machine.execLdMixN d n s
  | .ldMixR d r => Sys2Proof.Machine.execLdMixR d r s
  | .ldRMix r d => Sys2Proof.Machine.execLdRMix r d s
  | .ldMiyN d n => Sys2Proof.Machine.execLdMiyN d n s
  | .ldMiyR d r => Sys2Proof.Machine.execLdMiyR d r s
  | .ldRMiy r d => Sys2Proof.Machine.execLdRMiy r d s
  | .ldMhldHL d => Sys2Proof.Machine.execLdMhldHL d s
  | .ldHLMhld d => Sys2Proof.Machine.execLdHLMhld d s
  | .ldMspHL n => Sys2Proof.Machine.execLdMspHL n s
  | .ldMspIX n => Sys2Proof.Machine.execLdMspIX n s
  | .ldMspIY n => Sys2Proof.Machine.execLdMspIY n s
  | .ldHLMsp n => Sys2Proof.Machine.execLdHLMsp n s
  | .ldIXMsp n => Sys2Proof.Machine.execLdIXMsp n s
  | .ldIYMsp n => Sys2Proof.Machine.execLdIYMsp n s
  | .ldMixHL d => Sys2Proof.Machine.execLdMixHL d s
  | .ldHLMix d => Sys2Proof.Machine.execLdHLMix d s
  | .ldMiyHL d => Sys2Proof.Machine.execLdMiyHL d s
  | .ldHLMiy d => Sys2Proof.Machine.execLdHLMiy d s
  | .ldpMhlHL => Sys2Proof.Machine.execLdpMhlHL s
  | .ldpMixHL => Sys2Proof.Machine.execLdpMixHL s
  | .ldpMiyHL => Sys2Proof.Machine.execLdpMiyHL s
  | .ldpHLMhl => Sys2Proof.Machine.execLdpHLMhl s
  | .ldpHLMix => Sys2Proof.Machine.execLdpHLMix s
  | .ldpHLMiy => Sys2Proof.Machine.execLdpHLMiy s
  | .ldpMmnHL mn => Sys2Proof.Machine.execLdpMmnHL mn s
  | .ldpMmnIX mn => Sys2Proof.Machine.execLdpMmnIX mn s
  | .ldpMmnIY mn => Sys2Proof.Machine.execLdpMmnIY mn s
  | .ldpHLMmn mn => Sys2Proof.Machine.execLdpHLMmn mn s
  | .ldpIXMmn mn => Sys2Proof.Machine.execLdpIXMmn mn s
  | .ldpIYMmn mn => Sys2Proof.Machine.execLdpIYMmn mn s
  | .ldRG r g => Sys2Proof.Machine.execLdRG r g s
  | .ldAEIR => Sys2Proof.Machine.execLdAEIR s
  | .ldAIIR => Sys2Proof.Machine.execLdAIIR s
  | .ldAXPC => Sys2Proof.Machine.execLdAXPC s
  | .ldEIRA => Sys2Proof.Machine.execLdEIRA s
  | .ldIIRA => Sys2Proof.Machine.execLdIIRA s
  | .ldXPCA => Sys2Proof.Machine.execLdXPCA s
  | .ldHLIX => Sys2Proof.Machine.execLdHLIX s
  | .ldHLIY => Sys2Proof.Machine.execLdHLIY s
  | .ldIXHL => Sys2Proof.Machine.execLdIXHL s
  | .ldIYHL => Sys2Proof.Machine.execLdIYHL s
  | .ldSPHL => Sys2Proof.Machine.execLdSPHL s
  | .ldSPIX => Sys2Proof.Machine.execLdSPIX s
  | .ldSPIY => Sys2Proof.Machine.execLdSPIY s
  | .ldDDaBC dd => Sys2Proof.Machine.execLdDDaBC dd s
  | .ldDDaDE dd => Sys2Proof.Machine.execLdDDaDE dd s
  | .exMspHL => Sys2Proof.Machine.execExMspHL s
  | .exMspIX => Sys2Proof.Machine.execExMspIX s
  | .exMspIY => Sys2Proof.Machine.execExMspIY s
  | .exAF => Sys2Proof.Machine.execExAF s
  | .exDEaHL => Sys2Proof.Machine.execExDEaHL s
  | .exDEaHLa => Sys2Proof.Machine.execExDEaHLa s
  | .exDEHL => Sys2Proof.Machine.execExDEHL s
  | .exDEHLa => Sys2Proof.Machine.execExDEHLa s
  | .exx => Sys2Proof.Machine.execExx s
  | .addSPd d => Sys2Proof.Machine.execAddSPd d s
  | .popIP => Sys2Proof.Machine.execPopIP s
  | .popIX => Sys2Proof.Machine.execPopIX s
  | .popIY => Sys2Proof.Machine.execPopIY s
  | .popZZ zz => Sys2Proof.Machine.execPopZZ zz s
  | .pushIP => Sys2Proof.Machine.execPushIP s
  | .pushIX => Sys2Proof.Machine.execPushIX s
  | .pushIY => Sys2Proof.Machine.execPushIY s
  | .pushZZ zz => Sys2Proof.Machine.execPushZZ zz s
  | .adcHLss ss => Sys2Proof.Machine.execAdcHLss ss s
  | .addHLss ss => Sys2Proof.Machine.execAddHLss ss s
  | .addIXxx xx => Sys2Proof.Machine.execAddIXxx xx s
  | .addIYyy yy => Sys2Proof.Machine.execAddIYyy yy s
  | .andHLDE => Sys2Proof.Machine.execAndHLDE s
  | .andIXDE => Sys2Proof.Machine.execAndIXDE s
  | .andIYDE => Sys2Proof.Machine.execAndIYDE s
  | .boolHL => Sys2Proof.Machine.execBoolHL s
  | .boolIX => Sys2Proof.Machine.execBoolIX s
  | .boolIY => Sys2Proof.Machine.execBoolIY s
  | .decIX => Sys2Proof.Machine.execDecIX s
  | .decIY => Sys2Proof.Machine.execDecIY s
  | .decSS ss => Sys2Proof.Machine.execDecSS ss s
  | .incIX => Sys2Proof.Machine.execIncIX s
  | .incIY => Sys2Proof.Machine.execIncIY s
  | .incSS ss => Sys2Proof.Machine.execIncSS ss s
  | .mul => Sys2Proof.Machine.execMul s
  | .orHLDE => Sys2Proof.Machine.execOrHLDE s
  | .orIXDE => Sys2Proof.Machine.execOrIXDE s
  | .orIYDE => Sys2Proof.Machine.execOrIYDE s
  | .rlDE => Sys2Proof.Machine.execRlDE s
  | .rrDE => Sys2Proof.Machine.execRrDE s
  | .rrHL => Sys2Proof.Machine.execRrHL s
  | .rrIX => Sys2Proof.Machine.execRrIX s
  | .rrIY => Sys2Proof.Machine.execRrIY s
  | .sbcHLss ss => Sys2Proof.Machine.execSbcHLss ss s
  | .adcMhl => Sys2Proof.Machine.execAdcMhl s
  | .adcMix d => Sys2Proof.Machine.execAdcMix d s
  | .adcMiy d => Sys2Proof.Machine.execAdcMiy d s
  | .adcN n => Sys2Proof.Machine.execAdcN n s
  | .adcR r => Sys2Proof.Machine.execAdcR r s
  | .addMhl => Sys2Proof.Machine.execAddMhl s
  | .addMix d => Sys2Proof.Machine.execAddMix d s
  | .addMiy d => Sys2Proof.Machine.execAddMiy d s
  | .addN n => Sys2Proof.Machine.execAddN n s
  | .addR r => Sys2Proof.Machine.execAddR r s
  | .andMhl => Sys2Proof.Machine.execAndMhl s
  | .andMix d => Sys2Proof.Machine.execAndMix d s
  | .andMiy d => Sys2Proof.Machine.execAndMiy d s
  | .andN n => Sys2Proof.Machine.execAndN n s
  | .andR r => Sys2Proof.Machine.execAndR r s
  | .cpMhl => Sys2Proof.Machine.execCpMhl s
  | .cpMix d => Sys2Proof.Machine.execCpMix d s
  | .cpMiy d => Sys2Proof.Machine.execCpMiy d s
  | .cpN n => Sys2Proof.Machine.execCpN n s
  | .cpR r => Sys2Proof.Machine.execCpR r s
  | .orMhl => Sys2Proof.Machine.execOrMhl s
  | .orMix d => Sys2Proof.Machine.execOrMix d s
  | .orMiy d => Sys2Proof.Machine.execOrMiy d s
  | .orN n => Sys2Proof.Machine.execOrN n s
  | .orR r => Sys2Proof.Machine.execOrR r s
  | .sbcMix d => Sys2Proof.Machine.execSbcMix d s
  | .sbcMiy d => Sys2Proof.Machine.execSbcMiy d s
  | .sbcMhl => Sys2Proof.Machine.execSbcMhl s
  | .sbcN n => Sys2Proof.Machine.execSbcN n s
  | .sbcR r => Sys2Proof.Machine.execSbcR r s
  | .subMhl => Sys2Proof.Machine.execSubMhl s
  | .subMix d => Sys2Proof.Machine.execSubMix d s
  | .subMiy d => Sys2Proof.Machine.execSubMiy d s
  | .subN n => Sys2Proof.Machine.execSubN n s
  | .subR r => Sys2Proof.Machine.execSubR r s
  | .xorMhl => Sys2Proof.Machine.execXorMhl s
  | .xorMix d => Sys2Proof.Machine.execXorMix d s
  | .xorMiy d => Sys2Proof.Machine.execXorMiy d s
  | .xorN n => Sys2Proof.Machine.execXorN n s
  | .xorR r => Sys2Proof.Machine.execXorR r s
  | .bitMhl b => Sys2Proof.Machine.execBitMhl b s
  | .bitMix b d => Sys2Proof.Machine.execBitMix b d s
  | .bitMiy b d => Sys2Proof.Machine.execBitMiy b d s
  | .bitR b r => Sys2Proof.Machine.execBitR b r s
  | .resMhl b => Sys2Proof.Machine.execResMhl b s
  | .resMix b d => Sys2Proof.Machine.execResMix b d s
  | .resMiy b d => Sys2Proof.Machine.execResMiy b d s
  | .resR b r => Sys2Proof.Machine.execResR b r s
  | .setMhl b => Sys2Proof.Machine.execSetMhl b s
  | .setMix b d => Sys2Proof.Machine.execSetMix b d s
  | .setMiy b d => Sys2Proof.Machine.execSetMiy b d s
  | .setR b r => Sys2Proof.Machine.execSetR b r s
  | .decMhl => Sys2Proof.Machine.execDecMhl s
  | .decMix d => Sys2Proof.Machine.execDecMix d s
  | .decMiy d => Sys2Proof.Machine.execDecMiy d s
  | .decR r => Sys2Proof.Machine.execDecR r s
  | .incMhl => Sys2Proof.Machine.execIncMhl s
  | .incMix d => Sys2Proof.Machine.execIncMix d s
  | .incMiy d => Sys2Proof.Machine.execIncMiy d s
  | .incR r => Sys2Proof.Machine.execIncR r s
  | .cpl => Sys2Proof.Machine.execCpl s
  | .neg => Sys2Proof.Machine.execNeg s
  | .rla => Sys2Proof.Machine.execRla s
  | .rlca => Sys2Proof.Machine.execRlca s
  | .rra => Sys2Proof.Machine.execRra s
  | .rrca => Sys2Proof.Machine.execRrca s
  | .rlMhl => Sys2Proof.Machine.execRlMhl s
  | .rlMix d => Sys2Proof.Machine.execRlMix d s
  | .rlMiy d => Sys2Proof.Machine.execRlMiy d s
  | .rlR r => Sys2Proof.Machine.execRlR r s
  | .rlcMhl => Sys2Proof.Machine.execRlcMhl s
  | .rlcMix d => Sys2Proof.Machine.execRlcMix d s
  | .rlcMiy d => Sys2Proof.Machine.execRlcMiy d s
  | .rlcR r => Sys2Proof.Machine.execRlcR r s
  | .rrMhl => Sys2Proof.Machine.execRrMhl s
  | .rrMix d => Sys2Proof.Machine.execRrMix d s
  | .rrMiy d => Sys2Proof.Machine.execRrMiy d s
  | .rrR r => Sys2Proof.Machine.execRrR r s
  | .rrcMhl => Sys2Proof.Machine.execRrcMhl s
  | .rrcMix d => Sys2Proof.Machine.execRrcMix d s
  | .rrcMiy d => Sys2Proof.Machine.execRrcMiy d s
  | .rrcR r => Sys2Proof.Machine.execRrcR r s
  | .slaMhl => Sys2Proof.Machine.execSlaMhl s
  | .slaMix d => Sys2Proof.Machine.execSlaMix d s
  | .slaMiy d => Sys2Proof.Machine.execSlaMiy d s
  | .slaR r => Sys2Proof.Machine.execSlaR r s
  | .sraMhl => Sys2Proof.Machine.execSraMhl s
  | .sraMix d => Sys2Proof.Machine.execSraMix d s
  | .sraMiy d => Sys2Proof.Machine.execSraMiy d s
  | .sraR r => Sys2Proof.Machine.execSraR r s
  | .srlMhl => Sys2Proof.Machine.execSrlMhl s
  | .srlMix d => Sys2Proof.Machine.execSrlMix d s
  | .srlMiy d => Sys2Proof.Machine.execSrlMiy d s
  | .srlR r => Sys2Proof.Machine.execSrlR r s
  | .altd j => Sys2Proof.Machine.execAltd j s
  | .ioe j => Sys2Proof.Machine.execIoe j s
  | .ioi j => Sys2Proof.Machine.execIoi j s
  | .ldd => Sys2Proof.Machine.execLdd s
  | .lddr => Sys2Proof.Machine.execLddr s
  | .ldi => Sys2Proof.Machine.execLdi s
  | .ldir => Sys2Proof.Machine.execLdir s
  | .callMn mn => Sys2Proof.Machine.execCallMn mn s
  | .djnz e => Sys2Proof.Machine.execDjnz e s
  | .jpHL => Sys2Proof.Machine.execJpHL s
  | .jpIX => Sys2Proof.Machine.execJpIX s
  | .jpIY => Sys2Proof.Machine.execJpIY s
  | .jpF f mn => Sys2Proof.Machine.execJpF f mn s
  | .jpMn mn => Sys2Proof.Machine.execJpMn mn s
  | .jrCC cc e => Sys2Proof.Machine.execJrCC cc e s
  | .jrE e => Sys2Proof.Machine.execJrE e s
  | .lcall x mn => Sys2Proof.Machine.execLcall x mn s
  | .ljp x mn => Sys2Proof.Machine.execLjp x mn s
  | .lret => Sys2Proof.Machine.execLret s
  | .ret => Sys2Proof.Machine.execRet s
  | .retF f => Sys2Proof.Machine.execRetF f s
  | .reti => Sys2Proof.Machine.execReti s
  | .rst v => Sys2Proof.Machine.execRst v s
  | .ccf => Sys2Proof.Machine.execCcf s
  | .ipset0 => Sys2Proof.Machine.execIpset0 s
  | .ipset1 => Sys2Proof.Machine.execIpset1 s
  | .ipset2 => Sys2Proof.Machine.execIpset2 s
  | .ipset3 => Sys2Proof.Machine.execIpset3 s
  | .ipres => Sys2Proof.Machine.execIpres s
  | .nop => Sys2Proof.Machine.execNop s
  | .scf => Sys2Proof.Machine.execScf s

end Sys2Proof.Machine
end

