-- ==== Sys2Proof/Machine/Fetch.lean ====
section
/-! DEFINITION. Fetching an instruction's bytes (spec/20_memory.md R44), and storing a run of bytes. -/
namespace Sys2Proof.Machine

/-- The six bytes from PC on, the longest instruction being two prefixes and four bytes (30_encoding.md R60, R66).
Fetch reads memory only, with the one `Translate`, and leaves no trace (20_memory.md R44, log 5). -/
def State.fetchBytes (s : State) : List Byte :=
  [s.mem8 s.pc, s.mem8 (s.pc + 1), s.mem8 (s.pc + 2), s.mem8 (s.pc + 3), s.mem8 (s.pc + 4), s.mem8 (s.pc + 5)]

/-- Store bytes at a logical address and those after it, modulo 65536. -/
def State.storeFrom (s : State) (a : Word) : List Byte → State
  | [] => s
  | v :: vs => State.storeFrom (s.wrMem8 a v) (a + 1) vs

end Sys2Proof.Machine
end

