-- ==== Sys2Proof/Machine/Step.lean ====
section
/-!
DEFINITION. One step of the machine: the instruction at PC with its prefixes, then the boundary after it
(spec/10_state.md R18, 60_exceptions.md R404, R405).
-/
namespace Sys2Proof.Machine

/-- One step. Bytes that are no instruction are refused (30_encoding.md R69); otherwise the instruction at PC runs and
the boundary after it offers what `IRQ` offers (60_exceptions.md R405). -/
def step (s : State) : Host.Outcome State Fault Refusal :=
  match decode s.fetchBytes with
  | .error e => .refused (.undefinedOpcode e)
  | .ok (i, _) =>
    match exec i s with
    | .next t => .next t.boundary
    | .fault f => .fault f
    | .refused r => .refused r

/-- The harness places one table word at PC, as the next instruction (70_reset_and_hazards.md R433, log 26): the
parameter `Translate` becomes the identity, so that PC is a physical address, and the six bytes the fetch reads are
stored from PC on. -/
def State.withFetchWord (s : State) (nbits w : Nat) : State :=
  State.storeFrom { s with translation := .identity } s.pc (tableBytes nbits w)

end Sys2Proof.Machine
end

