-- ==== Sys2Proof/Machine/Columns.lean ====
section
/-!
DEFINITION. The columns of the summary tables (spec/00_scope.md R7) as spec/opcode_table.json prints them, row by
row: A (`altd`), I (`io`), the flag cells S Z V C, `privileged`, `length`; and the registers the Operation column of a
row writes. No meaning of the machine is written with them: they are what statements hold the machine against.
-/
namespace Sys2Proof

/-- The A column: what ALTD does to a row (00_scope.md R7). -/
inductive AltdCol where
  | empty | f | r | fr | special
  deriving DecidableEq, Repr

/-- The I column: which operand an I/O prefix moves (00_scope.md R7). -/
inductive IoCol where
  | empty | source | destination | both
  deriving DecidableEq, Repr

/-- A flag cell is `-` (`keep`), or the row writes the flag (00_scope.md R7). -/
inductive FlagCell where
  | keep | written
  deriving DecidableEq, Repr

/-- The four flag cells of a row (00_scope.md R7). -/
structure FlagCells where
  /-- The cell S. -/
  s : FlagCell
  /-- The cell Z. -/
  z : FlagCell
  /-- The cell V. -/
  lv : FlagCell
  /-- The cell C. -/
  c : FlagCell
  deriving DecidableEq, Repr

/-- The A column of a row (spec/opcode_table.json, `altd`). -/
def altdCol : Instr → AltdCol
  | .ldIXmn _ => .empty
  | .ldIYmn _ => .empty
  | .ldDDmn _ _ => .r
  | .ldRN _ _ => .r
  | .ldMmnA _ => .empty
  | .ldAMmn _ => .r
  | .ldMmnHL _ => .empty
  | .ldMmnIX _ => .empty
  | .ldMmnIY _ => .empty
  | .ldMmnSS _ _ => .empty
  | .ldHLMmn _ => .r
  | .ldIXMmn _ => .empty
  | .ldIYMmn _ => .empty
  | .ldDDMmn _ _ => .r
  | .ldAMbc => .r
  | .ldAMde => .r
  | .ldMbcA => .empty
  | .ldMdeA => .empty
  | .ldMhlN _ => .empty
  | .ldMhlR _ => .empty
  | .ldRMhl _ => .r
  | .ldMixN _ _ => .empty
  | .ldMixR _ _ => .empty
  | .ldRMix _ _ => .r
  | .ldMiyN _ _ => .empty
  | .ldMiyR _ _ => .empty
  | .ldRMiy _ _ => .r
  | .ldMhldHL _ => .empty
  | .ldHLMhld _ => .r
  | .ldMspHL _ => .empty
  | .ldMspIX _ => .empty
  | .ldMspIY _ => .empty
  | .ldHLMsp _ => .r
  | .ldIXMsp _ => .empty
  | .ldIYMsp _ => .empty
  | .ldMixHL _ => .empty
  | .ldHLMix _ => .r
  | .ldMiyHL _ => .empty
  | .ldHLMiy _ => .r
  | .ldpMhlHL => .empty
  | .ldpMixHL => .empty
  | .ldpMiyHL => .empty
  | .ldpHLMhl => .empty
  | .ldpHLMix => .empty
  | .ldpHLMiy => .empty
  | .ldpMmnHL _ => .empty
  | .ldpMmnIX _ => .empty
  | .ldpMmnIY _ => .empty
  | .ldpHLMmn _ => .empty
  | .ldpIXMmn _ => .empty
  | .ldpIYMmn _ => .empty
  | .ldRG _ _ => .r
  | .ldAEIR => .fr
  | .ldAIIR => .fr
  | .ldAXPC => .r
  | .ldEIRA => .empty
  | .ldIIRA => .empty
  | .ldXPCA => .empty
  | .ldHLIX => .r
  | .ldHLIY => .r
  | .ldIXHL => .empty
  | .ldIYHL => .empty
  | .ldSPHL => .empty
  | .ldSPIX => .empty
  | .ldSPIY => .empty
  | .ldDDaBC _ => .empty
  | .ldDDaDE _ => .empty
  | .exMspHL => .r
  | .exMspIX => .empty
  | .exMspIY => .empty
  | .exAF => .empty
  | .exDEaHL => .special
  | .exDEaHLa => .special
  | .exDEHL => .special
  | .exDEHLa => .special
  | .exx => .empty
  | .addSPd _ => .f
  | .popIP => .empty
  | .popIX => .empty
  | .popIY => .empty
  | .popZZ _ => .r
  | .pushIP => .empty
  | .pushIX => .empty
  | .pushIY => .empty
  | .pushZZ _ => .empty
  | .adcHLss _ => .fr
  | .addHLss _ => .fr
  | .addIXxx _ => .f
  | .addIYyy _ => .f
  | .andHLDE => .fr
  | .andIXDE => .f
  | .andIYDE => .f
  | .boolHL => .fr
  | .boolIX => .f
  | .boolIY => .f
  | .decIX => .empty
  | .decIY => .empty
  | .decSS _ => .r
  | .incIX => .empty
  | .incIY => .empty
  | .incSS _ => .r
  | .mul => .empty
  | .orHLDE => .fr
  | .orIXDE => .f
  | .orIYDE => .f
  | .rlDE => .fr
  | .rrDE => .fr
  | .rrHL => .fr
  | .rrIX => .f
  | .rrIY => .f
  | .sbcHLss _ => .fr
  | .adcMhl => .fr
  | .adcMix _ => .fr
  | .adcMiy _ => .fr
  | .adcN _ => .fr
  | .adcR _ => .fr
  | .addMhl => .fr
  | .addMix _ => .fr
  | .addMiy _ => .fr
  | .addN _ => .fr
  | .addR _ => .fr
  | .andMhl => .fr
  | .andMix _ => .fr
  | .andMiy _ => .fr
  | .andN _ => .fr
  | .andR _ => .fr
  | .cpMhl => .f
  | .cpMix _ => .f
  | .cpMiy _ => .f
  | .cpN _ => .f
  | .cpR _ => .f
  | .orMhl => .fr
  | .orMix _ => .fr
  | .orMiy _ => .fr
  | .orN _ => .fr
  | .orR _ => .fr
  | .sbcMix _ => .fr
  | .sbcMiy _ => .fr
  | .sbcMhl => .fr
  | .sbcN _ => .fr
  | .sbcR _ => .fr
  | .subMhl => .fr
  | .subMix _ => .fr
  | .subMiy _ => .fr
  | .subN _ => .fr
  | .subR _ => .fr
  | .xorMhl => .fr
  | .xorMix _ => .fr
  | .xorMiy _ => .fr
  | .xorN _ => .fr
  | .xorR _ => .fr
  | .bitMhl _ => .f
  | .bitMix _ _ => .f
  | .bitMiy _ _ => .f
  | .bitR _ _ => .f
  | .resMhl _ => .empty
  | .resMix _ _ => .empty
  | .resMiy _ _ => .empty
  | .resR _ _ => .r
  | .setMhl _ => .empty
  | .setMix _ _ => .empty
  | .setMiy _ _ => .empty
  | .setR _ _ => .r
  | .decMhl => .f
  | .decMix _ => .f
  | .decMiy _ => .f
  | .decR _ => .fr
  | .incMhl => .f
  | .incMix _ => .f
  | .incMiy _ => .f
  | .incR _ => .fr
  | .cpl => .r
  | .neg => .fr
  | .rla => .fr
  | .rlca => .fr
  | .rra => .fr
  | .rrca => .fr
  | .rlMhl => .f
  | .rlMix _ => .f
  | .rlMiy _ => .f
  | .rlR _ => .fr
  | .rlcMhl => .f
  | .rlcMix _ => .f
  | .rlcMiy _ => .f
  | .rlcR _ => .fr
  | .rrMhl => .f
  | .rrMix _ => .f
  | .rrMiy _ => .f
  | .rrR _ => .fr
  | .rrcMhl => .f
  | .rrcMix _ => .f
  | .rrcMiy _ => .f
  | .rrcR _ => .fr
  | .slaMhl => .f
  | .slaMix _ => .f
  | .slaMiy _ => .f
  | .slaR _ => .fr
  | .sraMhl => .f
  | .sraMix _ => .f
  | .sraMiy _ => .f
  | .sraR _ => .fr
  | .srlMhl => .f
  | .srlMix _ => .f
  | .srlMiy _ => .f
  | .srlR _ => .fr
  | .altd _ => .empty
  | .ioe _ => .empty
  | .ioi _ => .empty
  | .ldd => .empty
  | .lddr => .empty
  | .ldi => .empty
  | .ldir => .empty
  | .callMn _ => .empty
  | .djnz _ => .r
  | .jpHL => .empty
  | .jpIX => .empty
  | .jpIY => .empty
  | .jpF _ _ => .empty
  | .jpMn _ => .empty
  | .jrCC _ _ => .empty
  | .jrE _ => .empty
  | .lcall _ _ => .empty
  | .ljp _ _ => .empty
  | .lret => .empty
  | .ret => .empty
  | .retF _ => .empty
  | .reti => .empty
  | .rst _ => .empty
  | .ccf => .f
  | .ipset0 => .empty
  | .ipset1 => .empty
  | .ipset2 => .empty
  | .ipset3 => .empty
  | .ipres => .empty
  | .nop => .empty
  | .scf => .f

/-- The I column of a row (spec/opcode_table.json, `io`): the source prints `d` for the `RES` rows. -/
def ioCol : Instr → IoCol
  | .ldIXmn _ => .empty
  | .ldIYmn _ => .empty
  | .ldDDmn _ _ => .empty
  | .ldRN _ _ => .empty
  | .ldMmnA _ => .destination
  | .ldAMmn _ => .source
  | .ldMmnHL _ => .destination
  | .ldMmnIX _ => .destination
  | .ldMmnIY _ => .destination
  | .ldMmnSS _ _ => .destination
  | .ldHLMmn _ => .source
  | .ldIXMmn _ => .source
  | .ldIYMmn _ => .source
  | .ldDDMmn _ _ => .source
  | .ldAMbc => .source
  | .ldAMde => .source
  | .ldMbcA => .destination
  | .ldMdeA => .destination
  | .ldMhlN _ => .destination
  | .ldMhlR _ => .destination
  | .ldRMhl _ => .source
  | .ldMixN _ _ => .destination
  | .ldMixR _ _ => .destination
  | .ldRMix _ _ => .source
  | .ldMiyN _ _ => .destination
  | .ldMiyR _ _ => .destination
  | .ldRMiy _ _ => .source
  | .ldMhldHL _ => .destination
  | .ldHLMhld _ => .source
  | .ldMspHL _ => .empty
  | .ldMspIX _ => .empty
  | .ldMspIY _ => .empty
  | .ldHLMsp _ => .empty
  | .ldIXMsp _ => .empty
  | .ldIYMsp _ => .empty
  | .ldMixHL _ => .destination
  | .ldHLMix _ => .source
  | .ldMiyHL _ => .destination
  | .ldHLMiy _ => .source
  | .ldpMhlHL => .empty
  | .ldpMixHL => .empty
  | .ldpMiyHL => .empty
  | .ldpHLMhl => .empty
  | .ldpHLMix => .empty
  | .ldpHLMiy => .empty
  | .ldpMmnHL _ => .empty
  | .ldpMmnIX _ => .empty
  | .ldpMmnIY _ => .empty
  | .ldpHLMmn _ => .empty
  | .ldpIXMmn _ => .empty
  | .ldpIYMmn _ => .empty
  | .ldRG _ _ => .empty
  | .ldAEIR => .empty
  | .ldAIIR => .empty
  | .ldAXPC => .empty
  | .ldEIRA => .empty
  | .ldIIRA => .empty
  | .ldXPCA => .empty
  | .ldHLIX => .empty
  | .ldHLIY => .empty
  | .ldIXHL => .empty
  | .ldIYHL => .empty
  | .ldSPHL => .empty
  | .ldSPIX => .empty
  | .ldSPIY => .empty
  | .ldDDaBC _ => .empty
  | .ldDDaDE _ => .empty
  | .exMspHL => .empty
  | .exMspIX => .empty
  | .exMspIY => .empty
  | .exAF => .empty
  | .exDEaHL => .empty
  | .exDEaHLa => .empty
  | .exDEHL => .empty
  | .exDEHLa => .empty
  | .exx => .empty
  | .addSPd _ => .empty
  | .popIP => .empty
  | .popIX => .empty
  | .popIY => .empty
  | .popZZ _ => .empty
  | .pushIP => .empty
  | .pushIX => .empty
  | .pushIY => .empty
  | .pushZZ _ => .empty
  | .adcHLss _ => .empty
  | .addHLss _ => .empty
  | .addIXxx _ => .empty
  | .addIYyy _ => .empty
  | .andHLDE => .empty
  | .andIXDE => .empty
  | .andIYDE => .empty
  | .boolHL => .empty
  | .boolIX => .empty
  | .boolIY => .empty
  | .decIX => .empty
  | .decIY => .empty
  | .decSS _ => .empty
  | .incIX => .empty
  | .incIY => .empty
  | .incSS _ => .empty
  | .mul => .empty
  | .orHLDE => .empty
  | .orIXDE => .empty
  | .orIYDE => .empty
  | .rlDE => .empty
  | .rrDE => .empty
  | .rrHL => .empty
  | .rrIX => .empty
  | .rrIY => .empty
  | .sbcHLss _ => .empty
  | .adcMhl => .source
  | .adcMix _ => .source
  | .adcMiy _ => .source
  | .adcN _ => .empty
  | .adcR _ => .empty
  | .addMhl => .source
  | .addMix _ => .source
  | .addMiy _ => .source
  | .addN _ => .empty
  | .addR _ => .empty
  | .andMhl => .source
  | .andMix _ => .source
  | .andMiy _ => .source
  | .andN _ => .empty
  | .andR _ => .empty
  | .cpMhl => .source
  | .cpMix _ => .source
  | .cpMiy _ => .source
  | .cpN _ => .empty
  | .cpR _ => .empty
  | .orMhl => .source
  | .orMix _ => .source
  | .orMiy _ => .source
  | .orN _ => .empty
  | .orR _ => .empty
  | .sbcMix _ => .source
  | .sbcMiy _ => .source
  | .sbcMhl => .source
  | .sbcN _ => .empty
  | .sbcR _ => .empty
  | .subMhl => .source
  | .subMix _ => .source
  | .subMiy _ => .source
  | .subN _ => .empty
  | .subR _ => .empty
  | .xorMhl => .source
  | .xorMix _ => .source
  | .xorMiy _ => .source
  | .xorN _ => .empty
  | .xorR _ => .empty
  | .bitMhl _ => .source
  | .bitMix _ _ => .source
  | .bitMiy _ _ => .source
  | .bitR _ _ => .empty
  | .resMhl _ => .destination
  | .resMix _ _ => .destination
  | .resMiy _ _ => .destination
  | .resR _ _ => .empty
  | .setMhl _ => .both
  | .setMix _ _ => .both
  | .setMiy _ _ => .both
  | .setR _ _ => .empty
  | .decMhl => .both
  | .decMix _ => .both
  | .decMiy _ => .both
  | .decR _ => .empty
  | .incMhl => .both
  | .incMix _ => .both
  | .incMiy _ => .both
  | .incR _ => .empty
  | .cpl => .empty
  | .neg => .empty
  | .rla => .empty
  | .rlca => .empty
  | .rra => .empty
  | .rrca => .empty
  | .rlMhl => .both
  | .rlMix _ => .both
  | .rlMiy _ => .both
  | .rlR _ => .empty
  | .rlcMhl => .both
  | .rlcMix _ => .both
  | .rlcMiy _ => .both
  | .rlcR _ => .empty
  | .rrMhl => .both
  | .rrMix _ => .both
  | .rrMiy _ => .both
  | .rrR _ => .empty
  | .rrcMhl => .both
  | .rrcMix _ => .both
  | .rrcMiy _ => .both
  | .rrcR _ => .empty
  | .slaMhl => .both
  | .slaMix _ => .both
  | .slaMiy _ => .both
  | .slaR _ => .empty
  | .sraMhl => .both
  | .sraMix _ => .both
  | .sraMiy _ => .both
  | .sraR _ => .empty
  | .srlMhl => .both
  | .srlMix _ => .both
  | .srlMiy _ => .both
  | .srlR _ => .empty
  | .altd _ => .empty
  | .ioe _ => .empty
  | .ioi _ => .empty
  | .ldd => .destination
  | .lddr => .destination
  | .ldi => .destination
  | .ldir => .destination
  | .callMn _ => .empty
  | .djnz _ => .empty
  | .jpHL => .empty
  | .jpIX => .empty
  | .jpIY => .empty
  | .jpF _ _ => .empty
  | .jpMn _ => .empty
  | .jrCC _ _ => .empty
  | .jrE _ => .empty
  | .lcall _ _ => .empty
  | .ljp _ _ => .empty
  | .lret => .empty
  | .ret => .empty
  | .retF _ => .empty
  | .reti => .empty
  | .rst _ => .empty
  | .ccf => .empty
  | .ipset0 => .empty
  | .ipset1 => .empty
  | .ipset2 => .empty
  | .ipset3 => .empty
  | .ipres => .empty
  | .nop => .empty
  | .scf => .empty

/-- A row whose memory operand is read and written: the I column `b`, and the `RES` rows, which are read as `b`
(45_bit_incdec_fastA.md R259, 92_eei_decisions.md D22, log 17). -/
def ioReadModifyWrite : Instr → Bool
  | .ldIXmn _ => false
  | .ldIYmn _ => false
  | .ldDDmn _ _ => false
  | .ldRN _ _ => false
  | .ldMmnA _ => false
  | .ldAMmn _ => false
  | .ldMmnHL _ => false
  | .ldMmnIX _ => false
  | .ldMmnIY _ => false
  | .ldMmnSS _ _ => false
  | .ldHLMmn _ => false
  | .ldIXMmn _ => false
  | .ldIYMmn _ => false
  | .ldDDMmn _ _ => false
  | .ldAMbc => false
  | .ldAMde => false
  | .ldMbcA => false
  | .ldMdeA => false
  | .ldMhlN _ => false
  | .ldMhlR _ => false
  | .ldRMhl _ => false
  | .ldMixN _ _ => false
  | .ldMixR _ _ => false
  | .ldRMix _ _ => false
  | .ldMiyN _ _ => false
  | .ldMiyR _ _ => false
  | .ldRMiy _ _ => false
  | .ldMhldHL _ => false
  | .ldHLMhld _ => false
  | .ldMspHL _ => false
  | .ldMspIX _ => false
  | .ldMspIY _ => false
  | .ldHLMsp _ => false
  | .ldIXMsp _ => false
  | .ldIYMsp _ => false
  | .ldMixHL _ => false
  | .ldHLMix _ => false
  | .ldMiyHL _ => false
  | .ldHLMiy _ => false
  | .ldpMhlHL => false
  | .ldpMixHL => false
  | .ldpMiyHL => false
  | .ldpHLMhl => false
  | .ldpHLMix => false
  | .ldpHLMiy => false
  | .ldpMmnHL _ => false
  | .ldpMmnIX _ => false
  | .ldpMmnIY _ => false
  | .ldpHLMmn _ => false
  | .ldpIXMmn _ => false
  | .ldpIYMmn _ => false
  | .ldRG _ _ => false
  | .ldAEIR => false
  | .ldAIIR => false
  | .ldAXPC => false
  | .ldEIRA => false
  | .ldIIRA => false
  | .ldXPCA => false
  | .ldHLIX => false
  | .ldHLIY => false
  | .ldIXHL => false
  | .ldIYHL => false
  | .ldSPHL => false
  | .ldSPIX => false
  | .ldSPIY => false
  | .ldDDaBC _ => false
  | .ldDDaDE _ => false
  | .exMspHL => false
  | .exMspIX => false
  | .exMspIY => false
  | .exAF => false
  | .exDEaHL => false
  | .exDEaHLa => false
  | .exDEHL => false
  | .exDEHLa => false
  | .exx => false
  | .addSPd _ => false
  | .popIP => false
  | .popIX => false
  | .popIY => false
  | .popZZ _ => false
  | .pushIP => false
  | .pushIX => false
  | .pushIY => false
  | .pushZZ _ => false
  | .adcHLss _ => false
  | .addHLss _ => false
  | .addIXxx _ => false
  | .addIYyy _ => false
  | .andHLDE => false
  | .andIXDE => false
  | .andIYDE => false
  | .boolHL => false
  | .boolIX => false
  | .boolIY => false
  | .decIX => false
  | .decIY => false
  | .decSS _ => false
  | .incIX => false
  | .incIY => false
  | .incSS _ => false
  | .mul => false
  | .orHLDE => false
  | .orIXDE => false
  | .orIYDE => false
  | .rlDE => false
  | .rrDE => false
  | .rrHL => false
  | .rrIX => false
  | .rrIY => false
  | .sbcHLss _ => false
  | .adcMhl => false
  | .adcMix _ => false
  | .adcMiy _ => false
  | .adcN _ => false
  | .adcR _ => false
  | .addMhl => false
  | .addMix _ => false
  | .addMiy _ => false
  | .addN _ => false
  | .addR _ => false
  | .andMhl => false
  | .andMix _ => false
  | .andMiy _ => false
  | .andN _ => false
  | .andR _ => false
  | .cpMhl => false
  | .cpMix _ => false
  | .cpMiy _ => false
  | .cpN _ => false
  | .cpR _ => false
  | .orMhl => false
  | .orMix _ => false
  | .orMiy _ => false
  | .orN _ => false
  | .orR _ => false
  | .sbcMix _ => false
  | .sbcMiy _ => false
  | .sbcMhl => false
  | .sbcN _ => false
  | .sbcR _ => false
  | .subMhl => false
  | .subMix _ => false
  | .subMiy _ => false
  | .subN _ => false
  | .subR _ => false
  | .xorMhl => false
  | .xorMix _ => false
  | .xorMiy _ => false
  | .xorN _ => false
  | .xorR _ => false
  | .bitMhl _ => false
  | .bitMix _ _ => false
  | .bitMiy _ _ => false
  | .bitR _ _ => false
  | .resMhl _ => true
  | .resMix _ _ => true
  | .resMiy _ _ => true
  | .resR _ _ => false
  | .setMhl _ => true
  | .setMix _ _ => true
  | .setMiy _ _ => true
  | .setR _ _ => false
  | .decMhl => true
  | .decMix _ => true
  | .decMiy _ => true
  | .decR _ => false
  | .incMhl => true
  | .incMix _ => true
  | .incMiy _ => true
  | .incR _ => false
  | .cpl => false
  | .neg => false
  | .rla => false
  | .rlca => false
  | .rra => false
  | .rrca => false
  | .rlMhl => true
  | .rlMix _ => true
  | .rlMiy _ => true
  | .rlR _ => false
  | .rlcMhl => true
  | .rlcMix _ => true
  | .rlcMiy _ => true
  | .rlcR _ => false
  | .rrMhl => true
  | .rrMix _ => true
  | .rrMiy _ => true
  | .rrR _ => false
  | .rrcMhl => true
  | .rrcMix _ => true
  | .rrcMiy _ => true
  | .rrcR _ => false
  | .slaMhl => true
  | .slaMix _ => true
  | .slaMiy _ => true
  | .slaR _ => false
  | .sraMhl => true
  | .sraMix _ => true
  | .sraMiy _ => true
  | .sraR _ => false
  | .srlMhl => true
  | .srlMix _ => true
  | .srlMiy _ => true
  | .srlR _ => false
  | .altd _ => false
  | .ioe _ => false
  | .ioi _ => false
  | .ldd => false
  | .lddr => false
  | .ldi => false
  | .ldir => false
  | .callMn _ => false
  | .djnz _ => false
  | .jpHL => false
  | .jpIX => false
  | .jpIY => false
  | .jpF _ _ => false
  | .jpMn _ => false
  | .jrCC _ _ => false
  | .jrE _ => false
  | .lcall _ _ => false
  | .ljp _ _ => false
  | .lret => false
  | .ret => false
  | .retF _ => false
  | .reti => false
  | .rst _ => false
  | .ccf => false
  | .ipset0 => false
  | .ipset1 => false
  | .ipset2 => false
  | .ipset3 => false
  | .ipres => false
  | .nop => false
  | .scf => false

/-- The flag cells of a row (spec/opcode_table.json, `flags`). -/
def flagCells : Instr → FlagCells
  | .ldIXmn _ => ⟨.keep, .keep, .keep, .keep⟩
  | .ldIYmn _ => ⟨.keep, .keep, .keep, .keep⟩
  | .ldDDmn _ _ => ⟨.keep, .keep, .keep, .keep⟩
  | .ldRN _ _ => ⟨.keep, .keep, .keep, .keep⟩
  | .ldMmnA _ => ⟨.keep, .keep, .keep, .keep⟩
  | .ldAMmn _ => ⟨.keep, .keep, .keep, .keep⟩
  | .ldMmnHL _ => ⟨.keep, .keep, .keep, .keep⟩
  | .ldMmnIX _ => ⟨.keep, .keep, .keep, .keep⟩
  | .ldMmnIY _ => ⟨.keep, .keep, .keep, .keep⟩
  | .ldMmnSS _ _ => ⟨.keep, .keep, .keep, .keep⟩
  | .ldHLMmn _ => ⟨.keep, .keep, .keep, .keep⟩
  | .ldIXMmn _ => ⟨.keep, .keep, .keep, .keep⟩
  | .ldIYMmn _ => ⟨.keep, .keep, .keep, .keep⟩
  | .ldDDMmn _ _ => ⟨.keep, .keep, .keep, .keep⟩
  | .ldAMbc => ⟨.keep, .keep, .keep, .keep⟩
  | .ldAMde => ⟨.keep, .keep, .keep, .keep⟩
  | .ldMbcA => ⟨.keep, .keep, .keep, .keep⟩
  | .ldMdeA => ⟨.keep, .keep, .keep, .keep⟩
  | .ldMhlN _ => ⟨.keep, .keep, .keep, .keep⟩
  | .ldMhlR _ => ⟨.keep, .keep, .keep, .keep⟩
  | .ldRMhl _ => ⟨.keep, .keep, .keep, .keep⟩
  | .ldMixN _ _ => ⟨.keep, .keep, .keep, .keep⟩
  | .ldMixR _ _ => ⟨.keep, .keep, .keep, .keep⟩
  | .ldRMix _ _ => ⟨.keep, .keep, .keep, .keep⟩
  | .ldMiyN _ _ => ⟨.keep, .keep, .keep, .keep⟩
  | .ldMiyR _ _ => ⟨.keep, .keep, .keep, .keep⟩
  | .ldRMiy _ _ => ⟨.keep, .keep, .keep, .keep⟩
  | .ldMhldHL _ => ⟨.keep, .keep, .keep, .keep⟩
  | .ldHLMhld _ => ⟨.keep, .keep, .keep, .keep⟩
  | .ldMspHL _ => ⟨.keep, .keep, .keep, .keep⟩
  | .ldMspIX _ => ⟨.keep, .keep, .keep, .keep⟩
  | .ldMspIY _ => ⟨.keep, .keep, .keep, .keep⟩
  | .ldHLMsp _ => ⟨.keep, .keep, .keep, .keep⟩
  | .ldIXMsp _ => ⟨.keep, .keep, .keep, .keep⟩
  | .ldIYMsp _ => ⟨.keep, .keep, .keep, .keep⟩
  | .ldMixHL _ => ⟨.keep, .keep, .keep, .keep⟩
  | .ldHLMix _ => ⟨.keep, .keep, .keep, .keep⟩
  | .ldMiyHL _ => ⟨.keep, .keep, .keep, .keep⟩
  | .ldHLMiy _ => ⟨.keep, .keep, .keep, .keep⟩
  | .ldpMhlHL => ⟨.keep, .keep, .keep, .keep⟩
  | .ldpMixHL => ⟨.keep, .keep, .keep, .keep⟩
  | .ldpMiyHL => ⟨.keep, .keep, .keep, .keep⟩
  | .ldpHLMhl => ⟨.keep, .keep, .keep, .keep⟩
  | .ldpHLMix => ⟨.keep, .keep, .keep, .keep⟩
  | .ldpHLMiy => ⟨.keep, .keep, .keep, .keep⟩
  | .ldpMmnHL _ => ⟨.keep, .keep, .keep, .keep⟩
  | .ldpMmnIX _ => ⟨.keep, .keep, .keep, .keep⟩
  | .ldpMmnIY _ => ⟨.keep, .keep, .keep, .keep⟩
  | .ldpHLMmn _ => ⟨.keep, .keep, .keep, .keep⟩
  | .ldpIXMmn _ => ⟨.keep, .keep, .keep, .keep⟩
  | .ldpIYMmn _ => ⟨.keep, .keep, .keep, .keep⟩
  | .ldRG _ _ => ⟨.keep, .keep, .keep, .keep⟩
  | .ldAEIR => ⟨.written, .written, .keep, .keep⟩
  | .ldAIIR => ⟨.written, .written, .keep, .keep⟩
  | .ldAXPC => ⟨.keep, .keep, .keep, .keep⟩
  | .ldEIRA => ⟨.keep, .keep, .keep, .keep⟩
  | .ldIIRA => ⟨.keep, .keep, .keep, .keep⟩
  | .ldXPCA => ⟨.keep, .keep, .keep, .keep⟩
  | .ldHLIX => ⟨.keep, .keep, .keep, .keep⟩
  | .ldHLIY => ⟨.keep, .keep, .keep, .keep⟩
  | .ldIXHL => ⟨.keep, .keep, .keep, .keep⟩
  | .ldIYHL => ⟨.keep, .keep, .keep, .keep⟩
  | .ldSPHL => ⟨.keep, .keep, .keep, .keep⟩
  | .ldSPIX => ⟨.keep, .keep, .keep, .keep⟩
  | .ldSPIY => ⟨.keep, .keep, .keep, .keep⟩
  | .ldDDaBC _ => ⟨.keep, .keep, .keep, .keep⟩
  | .ldDDaDE _ => ⟨.keep, .keep, .keep, .keep⟩
  | .exMspHL => ⟨.keep, .keep, .keep, .keep⟩
  | .exMspIX => ⟨.keep, .keep, .keep, .keep⟩
  | .exMspIY => ⟨.keep, .keep, .keep, .keep⟩
  | .exAF => ⟨.keep, .keep, .keep, .keep⟩
  | .exDEaHL => ⟨.keep, .keep, .keep, .keep⟩
  | .exDEaHLa => ⟨.keep, .keep, .keep, .keep⟩
  | .exDEHL => ⟨.keep, .keep, .keep, .keep⟩
  | .exDEHLa => ⟨.keep, .keep, .keep, .keep⟩
  | .exx => ⟨.keep, .keep, .keep, .keep⟩
  | .addSPd _ => ⟨.keep, .keep, .keep, .written⟩
  | .popIP => ⟨.keep, .keep, .keep, .keep⟩
  | .popIX => ⟨.keep, .keep, .keep, .keep⟩
  | .popIY => ⟨.keep, .keep, .keep, .keep⟩
  | .popZZ _ => ⟨.keep, .keep, .keep, .keep⟩
  | .pushIP => ⟨.keep, .keep, .keep, .keep⟩
  | .pushIX => ⟨.keep, .keep, .keep, .keep⟩
  | .pushIY => ⟨.keep, .keep, .keep, .keep⟩
  | .pushZZ _ => ⟨.keep, .keep, .keep, .keep⟩
  | .adcHLss _ => ⟨.written, .written, .written, .written⟩
  | .addHLss _ => ⟨.keep, .keep, .keep, .written⟩
  | .addIXxx _ => ⟨.keep, .keep, .keep, .written⟩
  | .addIYyy _ => ⟨.keep, .keep, .keep, .written⟩
  | .andHLDE => ⟨.written, .written, .written, .written⟩
  | .andIXDE => ⟨.written, .written, .written, .written⟩
  | .andIYDE => ⟨.written, .written, .written, .written⟩
  | .boolHL => ⟨.written, .written, .written, .written⟩
  | .boolIX => ⟨.written, .written, .written, .written⟩
  | .boolIY => ⟨.written, .written, .written, .written⟩
  | .decIX => ⟨.keep, .keep, .keep, .keep⟩
  | .decIY => ⟨.keep, .keep, .keep, .keep⟩
  | .decSS _ => ⟨.keep, .keep, .keep, .keep⟩
  | .incIX => ⟨.keep, .keep, .keep, .keep⟩
  | .incIY => ⟨.keep, .keep, .keep, .keep⟩
  | .incSS _ => ⟨.keep, .keep, .keep, .keep⟩
  | .mul => ⟨.keep, .keep, .keep, .keep⟩
  | .orHLDE => ⟨.written, .written, .written, .written⟩
  | .orIXDE => ⟨.written, .written, .written, .written⟩
  | .orIYDE => ⟨.written, .written, .written, .written⟩
  | .rlDE => ⟨.written, .written, .written, .written⟩
  | .rrDE => ⟨.written, .written, .written, .written⟩
  | .rrHL => ⟨.written, .written, .written, .written⟩
  | .rrIX => ⟨.written, .written, .written, .written⟩
  | .rrIY => ⟨.written, .written, .written, .written⟩
  | .sbcHLss _ => ⟨.written, .written, .written, .written⟩
  | .adcMhl => ⟨.written, .written, .written, .written⟩
  | .adcMix _ => ⟨.written, .written, .written, .written⟩
  | .adcMiy _ => ⟨.written, .written, .written, .written⟩
  | .adcN _ => ⟨.written, .written, .written, .written⟩
  | .adcR _ => ⟨.written, .written, .written, .written⟩
  | .addMhl => ⟨.written, .written, .written, .written⟩
  | .addMix _ => ⟨.written, .written, .written, .written⟩
  | .addMiy _ => ⟨.written, .written, .written, .written⟩
  | .addN _ => ⟨.written, .written, .written, .written⟩
  | .addR _ => ⟨.written, .written, .written, .written⟩
  | .andMhl => ⟨.written, .written, .written, .written⟩
  | .andMix _ => ⟨.written, .written, .written, .written⟩
  | .andMiy _ => ⟨.written, .written, .written, .written⟩
  | .andN _ => ⟨.written, .written, .written, .written⟩
  | .andR _ => ⟨.written, .written, .written, .written⟩
  | .cpMhl => ⟨.written, .written, .written, .written⟩
  | .cpMix _ => ⟨.written, .written, .written, .written⟩
  | .cpMiy _ => ⟨.written, .written, .written, .written⟩
  | .cpN _ => ⟨.written, .written, .written, .written⟩
  | .cpR _ => ⟨.written, .written, .written, .written⟩
  | .orMhl => ⟨.written, .written, .written, .written⟩
  | .orMix _ => ⟨.written, .written, .written, .written⟩
  | .orMiy _ => ⟨.written, .written, .written, .written⟩
  | .orN _ => ⟨.written, .written, .written, .written⟩
  | .orR _ => ⟨.written, .written, .written, .written⟩
  | .sbcMix _ => ⟨.written, .written, .written, .written⟩
  | .sbcMiy _ => ⟨.written, .written, .written, .written⟩
  | .sbcMhl => ⟨.written, .written, .written, .written⟩
  | .sbcN _ => ⟨.written, .written, .written, .written⟩
  | .sbcR _ => ⟨.written, .written, .written, .written⟩
  | .subMhl => ⟨.written, .written, .written, .written⟩
  | .subMix _ => ⟨.written, .written, .written, .written⟩
  | .subMiy _ => ⟨.written, .written, .written, .written⟩
  | .subN _ => ⟨.written, .written, .written, .written⟩
  | .subR _ => ⟨.written, .written, .written, .written⟩
  | .xorMhl => ⟨.written, .written, .written, .written⟩
  | .xorMix _ => ⟨.written, .written, .written, .written⟩
  | .xorMiy _ => ⟨.written, .written, .written, .written⟩
  | .xorN _ => ⟨.written, .written, .written, .written⟩
  | .xorR _ => ⟨.written, .written, .written, .written⟩
  | .bitMhl _ => ⟨.keep, .written, .keep, .keep⟩
  | .bitMix _ _ => ⟨.keep, .written, .keep, .keep⟩
  | .bitMiy _ _ => ⟨.keep, .written, .keep, .keep⟩
  | .bitR _ _ => ⟨.keep, .written, .keep, .keep⟩
  | .resMhl _ => ⟨.keep, .keep, .keep, .keep⟩
  | .resMix _ _ => ⟨.keep, .keep, .keep, .keep⟩
  | .resMiy _ _ => ⟨.keep, .keep, .keep, .keep⟩
  | .resR _ _ => ⟨.keep, .keep, .keep, .keep⟩
  | .setMhl _ => ⟨.keep, .keep, .keep, .keep⟩
  | .setMix _ _ => ⟨.keep, .keep, .keep, .keep⟩
  | .setMiy _ _ => ⟨.keep, .keep, .keep, .keep⟩
  | .setR _ _ => ⟨.keep, .keep, .keep, .keep⟩
  | .decMhl => ⟨.written, .written, .written, .keep⟩
  | .decMix _ => ⟨.written, .written, .written, .keep⟩
  | .decMiy _ => ⟨.written, .written, .written, .keep⟩
  | .decR _ => ⟨.written, .written, .written, .keep⟩
  | .incMhl => ⟨.written, .written, .written, .keep⟩
  | .incMix _ => ⟨.written, .written, .written, .keep⟩
  | .incMiy _ => ⟨.written, .written, .written, .keep⟩
  | .incR _ => ⟨.written, .written, .written, .keep⟩
  | .cpl => ⟨.keep, .keep, .keep, .keep⟩
  | .neg => ⟨.written, .written, .written, .written⟩
  | .rla => ⟨.keep, .keep, .keep, .written⟩
  | .rlca => ⟨.keep, .keep, .keep, .written⟩
  | .rra => ⟨.keep, .keep, .keep, .written⟩
  | .rrca => ⟨.keep, .keep, .keep, .written⟩
  | .rlMhl => ⟨.written, .written, .written, .written⟩
  | .rlMix _ => ⟨.written, .written, .written, .written⟩
  | .rlMiy _ => ⟨.written, .written, .written, .written⟩
  | .rlR _ => ⟨.written, .written, .written, .written⟩
  | .rlcMhl => ⟨.written, .written, .written, .written⟩
  | .rlcMix _ => ⟨.written, .written, .written, .written⟩
  | .rlcMiy _ => ⟨.written, .written, .written, .written⟩
  | .rlcR _ => ⟨.written, .written, .written, .written⟩
  | .rrMhl => ⟨.written, .written, .written, .written⟩
  | .rrMix _ => ⟨.written, .written, .written, .written⟩
  | .rrMiy _ => ⟨.written, .written, .written, .written⟩
  | .rrR _ => ⟨.written, .written, .written, .written⟩
  | .rrcMhl => ⟨.written, .written, .written, .written⟩
  | .rrcMix _ => ⟨.written, .written, .written, .written⟩
  | .rrcMiy _ => ⟨.written, .written, .written, .written⟩
  | .rrcR _ => ⟨.written, .written, .written, .written⟩
  | .slaMhl => ⟨.written, .written, .written, .written⟩
  | .slaMix _ => ⟨.written, .written, .written, .written⟩
  | .slaMiy _ => ⟨.written, .written, .written, .written⟩
  | .slaR _ => ⟨.written, .written, .written, .written⟩
  | .sraMhl => ⟨.written, .written, .written, .written⟩
  | .sraMix _ => ⟨.written, .written, .written, .written⟩
  | .sraMiy _ => ⟨.written, .written, .written, .written⟩
  | .sraR _ => ⟨.written, .written, .written, .written⟩
  | .srlMhl => ⟨.written, .written, .written, .written⟩
  | .srlMix _ => ⟨.written, .written, .written, .written⟩
  | .srlMiy _ => ⟨.written, .written, .written, .written⟩
  | .srlR _ => ⟨.written, .written, .written, .written⟩
  | .altd _ => ⟨.keep, .keep, .keep, .keep⟩
  | .ioe _ => ⟨.keep, .keep, .keep, .keep⟩
  | .ioi _ => ⟨.keep, .keep, .keep, .keep⟩
  | .ldd => ⟨.keep, .keep, .written, .keep⟩
  | .lddr => ⟨.keep, .keep, .written, .keep⟩
  | .ldi => ⟨.keep, .keep, .written, .keep⟩
  | .ldir => ⟨.keep, .keep, .written, .keep⟩
  | .callMn _ => ⟨.keep, .keep, .keep, .keep⟩
  | .djnz _ => ⟨.keep, .keep, .keep, .keep⟩
  | .jpHL => ⟨.keep, .keep, .keep, .keep⟩
  | .jpIX => ⟨.keep, .keep, .keep, .keep⟩
  | .jpIY => ⟨.keep, .keep, .keep, .keep⟩
  | .jpF _ _ => ⟨.keep, .keep, .keep, .keep⟩
  | .jpMn _ => ⟨.keep, .keep, .keep, .keep⟩
  | .jrCC _ _ => ⟨.keep, .keep, .keep, .keep⟩
  | .jrE _ => ⟨.keep, .keep, .keep, .keep⟩
  | .lcall _ _ => ⟨.keep, .keep, .keep, .keep⟩
  | .ljp _ _ => ⟨.keep, .keep, .keep, .keep⟩
  | .lret => ⟨.keep, .keep, .keep, .keep⟩
  | .ret => ⟨.keep, .keep, .keep, .keep⟩
  | .retF _ => ⟨.keep, .keep, .keep, .keep⟩
  | .reti => ⟨.keep, .keep, .keep, .keep⟩
  | .rst _ => ⟨.keep, .keep, .keep, .keep⟩
  | .ccf => ⟨.keep, .keep, .keep, .written⟩
  | .ipset0 => ⟨.keep, .keep, .keep, .keep⟩
  | .ipset1 => ⟨.keep, .keep, .keep, .keep⟩
  | .ipset2 => ⟨.keep, .keep, .keep, .keep⟩
  | .ipset3 => ⟨.keep, .keep, .keep, .keep⟩
  | .ipres => ⟨.keep, .keep, .keep, .keep⟩
  | .nop => ⟨.keep, .keep, .keep, .keep⟩
  | .scf => ⟨.keep, .keep, .keep, .written⟩

/-- The row is privileged (spec/opcode_table.json, `privileged`; 60_exceptions.md R410). -/
def isPrivileged : Instr → Bool
  | .ldIXmn _ => false
  | .ldIYmn _ => false
  | .ldDDmn _ _ => false
  | .ldRN _ _ => false
  | .ldMmnA _ => false
  | .ldAMmn _ => false
  | .ldMmnHL _ => false
  | .ldMmnIX _ => false
  | .ldMmnIY _ => false
  | .ldMmnSS _ _ => false
  | .ldHLMmn _ => false
  | .ldIXMmn _ => false
  | .ldIYMmn _ => false
  | .ldDDMmn _ _ => false
  | .ldAMbc => false
  | .ldAMde => false
  | .ldMbcA => false
  | .ldMdeA => false
  | .ldMhlN _ => false
  | .ldMhlR _ => false
  | .ldRMhl _ => false
  | .ldMixN _ _ => false
  | .ldMixR _ _ => false
  | .ldRMix _ _ => false
  | .ldMiyN _ _ => false
  | .ldMiyR _ _ => false
  | .ldRMiy _ _ => false
  | .ldMhldHL _ => false
  | .ldHLMhld _ => false
  | .ldMspHL _ => false
  | .ldMspIX _ => false
  | .ldMspIY _ => false
  | .ldHLMsp _ => false
  | .ldIXMsp _ => false
  | .ldIYMsp _ => false
  | .ldMixHL _ => false
  | .ldHLMix _ => false
  | .ldMiyHL _ => false
  | .ldHLMiy _ => false
  | .ldpMhlHL => false
  | .ldpMixHL => false
  | .ldpMiyHL => false
  | .ldpHLMhl => false
  | .ldpHLMix => false
  | .ldpHLMiy => false
  | .ldpMmnHL _ => false
  | .ldpMmnIX _ => false
  | .ldpMmnIY _ => false
  | .ldpHLMmn _ => false
  | .ldpIXMmn _ => false
  | .ldpIYMmn _ => false
  | .ldRG _ _ => false
  | .ldAEIR => false
  | .ldAIIR => false
  | .ldAXPC => false
  | .ldEIRA => false
  | .ldIIRA => false
  | .ldXPCA => true
  | .ldHLIX => false
  | .ldHLIY => false
  | .ldIXHL => false
  | .ldIYHL => false
  | .ldSPHL => true
  | .ldSPIX => true
  | .ldSPIY => true
  | .ldDDaBC _ => false
  | .ldDDaDE _ => false
  | .exMspHL => false
  | .exMspIX => false
  | .exMspIY => false
  | .exAF => false
  | .exDEaHL => false
  | .exDEaHLa => false
  | .exDEHL => false
  | .exDEHLa => false
  | .exx => false
  | .addSPd _ => false
  | .popIP => true
  | .popIX => false
  | .popIY => false
  | .popZZ _ => false
  | .pushIP => false
  | .pushIX => false
  | .pushIY => false
  | .pushZZ _ => false
  | .adcHLss _ => false
  | .addHLss _ => false
  | .addIXxx _ => false
  | .addIYyy _ => false
  | .andHLDE => false
  | .andIXDE => false
  | .andIYDE => false
  | .boolHL => false
  | .boolIX => false
  | .boolIY => false
  | .decIX => false
  | .decIY => false
  | .decSS _ => false
  | .incIX => false
  | .incIY => false
  | .incSS _ => false
  | .mul => false
  | .orHLDE => false
  | .orIXDE => false
  | .orIYDE => false
  | .rlDE => false
  | .rrDE => false
  | .rrHL => false
  | .rrIX => false
  | .rrIY => false
  | .sbcHLss _ => false
  | .adcMhl => false
  | .adcMix _ => false
  | .adcMiy _ => false
  | .adcN _ => false
  | .adcR _ => false
  | .addMhl => false
  | .addMix _ => false
  | .addMiy _ => false
  | .addN _ => false
  | .addR _ => false
  | .andMhl => false
  | .andMix _ => false
  | .andMiy _ => false
  | .andN _ => false
  | .andR _ => false
  | .cpMhl => false
  | .cpMix _ => false
  | .cpMiy _ => false
  | .cpN _ => false
  | .cpR _ => false
  | .orMhl => false
  | .orMix _ => false
  | .orMiy _ => false
  | .orN _ => false
  | .orR _ => false
  | .sbcMix _ => false
  | .sbcMiy _ => false
  | .sbcMhl => false
  | .sbcN _ => false
  | .sbcR _ => false
  | .subMhl => false
  | .subMix _ => false
  | .subMiy _ => false
  | .subN _ => false
  | .subR _ => false
  | .xorMhl => false
  | .xorMix _ => false
  | .xorMiy _ => false
  | .xorN _ => false
  | .xorR _ => false
  | .bitMhl _ => true
  | .bitMix _ _ => false
  | .bitMiy _ _ => false
  | .bitR _ _ => false
  | .resMhl _ => false
  | .resMix _ _ => false
  | .resMiy _ _ => false
  | .resR _ _ => false
  | .setMhl _ => false
  | .setMix _ _ => false
  | .setMiy _ _ => false
  | .setR _ _ => false
  | .decMhl => false
  | .decMix _ => false
  | .decMiy _ => false
  | .decR _ => false
  | .incMhl => false
  | .incMix _ => false
  | .incMiy _ => false
  | .incR _ => false
  | .cpl => false
  | .neg => false
  | .rla => false
  | .rlca => false
  | .rra => false
  | .rrca => false
  | .rlMhl => false
  | .rlMix _ => false
  | .rlMiy _ => false
  | .rlR _ => false
  | .rlcMhl => false
  | .rlcMix _ => false
  | .rlcMiy _ => false
  | .rlcR _ => false
  | .rrMhl => false
  | .rrMix _ => false
  | .rrMiy _ => false
  | .rrR _ => false
  | .rrcMhl => false
  | .rrcMix _ => false
  | .rrcMiy _ => false
  | .rrcR _ => false
  | .slaMhl => false
  | .slaMix _ => false
  | .slaMiy _ => false
  | .slaR _ => false
  | .sraMhl => false
  | .sraMix _ => false
  | .sraMiy _ => false
  | .sraR _ => false
  | .srlMhl => false
  | .srlMix _ => false
  | .srlMiy _ => false
  | .srlR _ => false
  | .altd _ => false
  | .ioe _ => false
  | .ioi _ => false
  | .ldd => false
  | .lddr => false
  | .ldi => false
  | .ldir => false
  | .callMn _ => false
  | .djnz _ => false
  | .jpHL => false
  | .jpIX => false
  | .jpIY => false
  | .jpF _ _ => false
  | .jpMn _ => false
  | .jrCC _ _ => false
  | .jrE _ => false
  | .lcall _ _ => false
  | .ljp _ _ => false
  | .lret => false
  | .ret => false
  | .retF _ => false
  | .reti => true
  | .rst _ => false
  | .ccf => false
  | .ipset0 => true
  | .ipset1 => true
  | .ipset2 => true
  | .ipset3 => true
  | .ipres => true
  | .nop => false
  | .scf => false

/-- The bytes of a row without prefixes (spec/opcode_table.json, `length`); a prefix adds its byte to the instruction
after it (30_encoding.md R68). -/
def instrLength : Instr → Nat
  | .ldIXmn _ => 4
  | .ldIYmn _ => 4
  | .ldDDmn _ _ => 3
  | .ldRN _ _ => 2
  | .ldMmnA _ => 3
  | .ldAMmn _ => 3
  | .ldMmnHL _ => 3
  | .ldMmnIX _ => 4
  | .ldMmnIY _ => 4
  | .ldMmnSS _ _ => 4
  | .ldHLMmn _ => 3
  | .ldIXMmn _ => 4
  | .ldIYMmn _ => 4
  | .ldDDMmn _ _ => 4
  | .ldAMbc => 1
  | .ldAMde => 1
  | .ldMbcA => 1
  | .ldMdeA => 1
  | .ldMhlN _ => 2
  | .ldMhlR _ => 1
  | .ldRMhl _ => 1
  | .ldMixN _ _ => 4
  | .ldMixR _ _ => 3
  | .ldRMix _ _ => 3
  | .ldMiyN _ _ => 4
  | .ldMiyR _ _ => 3
  | .ldRMiy _ _ => 3
  | .ldMhldHL _ => 3
  | .ldHLMhld _ => 3
  | .ldMspHL _ => 2
  | .ldMspIX _ => 3
  | .ldMspIY _ => 3
  | .ldHLMsp _ => 2
  | .ldIXMsp _ => 3
  | .ldIYMsp _ => 3
  | .ldMixHL _ => 2
  | .ldHLMix _ => 2
  | .ldMiyHL _ => 3
  | .ldHLMiy _ => 3
  | .ldpMhlHL => 2
  | .ldpMixHL => 2
  | .ldpMiyHL => 2
  | .ldpHLMhl => 2
  | .ldpHLMix => 2
  | .ldpHLMiy => 2
  | .ldpMmnHL _ => 4
  | .ldpMmnIX _ => 4
  | .ldpMmnIY _ => 4
  | .ldpHLMmn _ => 4
  | .ldpIXMmn _ => 4
  | .ldpIYMmn _ => 4
  | .ldRG _ _ => 1
  | .ldAEIR => 2
  | .ldAIIR => 2
  | .ldAXPC => 2
  | .ldEIRA => 2
  | .ldIIRA => 2
  | .ldXPCA => 2
  | .ldHLIX => 2
  | .ldHLIY => 2
  | .ldIXHL => 2
  | .ldIYHL => 2
  | .ldSPHL => 1
  | .ldSPIX => 2
  | .ldSPIY => 2
  | .ldDDaBC _ => 2
  | .ldDDaDE _ => 2
  | .exMspHL => 2
  | .exMspIX => 2
  | .exMspIY => 2
  | .exAF => 1
  | .exDEaHL => 1
  | .exDEaHLa => 2
  | .exDEHL => 1
  | .exDEHLa => 2
  | .exx => 1
  | .addSPd _ => 2
  | .popIP => 2
  | .popIX => 2
  | .popIY => 2
  | .popZZ _ => 1
  | .pushIP => 2
  | .pushIX => 2
  | .pushIY => 2
  | .pushZZ _ => 1
  | .adcHLss _ => 2
  | .addHLss _ => 1
  | .addIXxx _ => 2
  | .addIYyy _ => 2
  | .andHLDE => 1
  | .andIXDE => 2
  | .andIYDE => 2
  | .boolHL => 1
  | .boolIX => 2
  | .boolIY => 2
  | .decIX => 2
  | .decIY => 2
  | .decSS _ => 1
  | .incIX => 2
  | .incIY => 2
  | .incSS _ => 1
  | .mul => 1
  | .orHLDE => 1
  | .orIXDE => 2
  | .orIYDE => 2
  | .rlDE => 1
  | .rrDE => 1
  | .rrHL => 1
  | .rrIX => 2
  | .rrIY => 2
  | .sbcHLss _ => 2
  | .adcMhl => 1
  | .adcMix _ => 3
  | .adcMiy _ => 3
  | .adcN _ => 2
  | .adcR _ => 1
  | .addMhl => 1
  | .addMix _ => 3
  | .addMiy _ => 3
  | .addN _ => 2
  | .addR _ => 1
  | .andMhl => 1
  | .andMix _ => 3
  | .andMiy _ => 3
  | .andN _ => 2
  | .andR _ => 1
  | .cpMhl => 1
  | .cpMix _ => 3
  | .cpMiy _ => 3
  | .cpN _ => 2
  | .cpR _ => 1
  | .orMhl => 1
  | .orMix _ => 3
  | .orMiy _ => 3
  | .orN _ => 2
  | .orR _ => 1
  | .sbcMix _ => 3
  | .sbcMiy _ => 3
  | .sbcMhl => 1
  | .sbcN _ => 2
  | .sbcR _ => 1
  | .subMhl => 1
  | .subMix _ => 3
  | .subMiy _ => 3
  | .subN _ => 2
  | .subR _ => 1
  | .xorMhl => 1
  | .xorMix _ => 3
  | .xorMiy _ => 3
  | .xorN _ => 2
  | .xorR _ => 1
  | .bitMhl _ => 2
  | .bitMix _ _ => 4
  | .bitMiy _ _ => 4
  | .bitR _ _ => 2
  | .resMhl _ => 2
  | .resMix _ _ => 4
  | .resMiy _ _ => 4
  | .resR _ _ => 2
  | .setMhl _ => 2
  | .setMix _ _ => 4
  | .setMiy _ _ => 4
  | .setR _ _ => 2
  | .decMhl => 1
  | .decMix _ => 3
  | .decMiy _ => 3
  | .decR _ => 1
  | .incMhl => 1
  | .incMix _ => 3
  | .incMiy _ => 3
  | .incR _ => 1
  | .cpl => 1
  | .neg => 2
  | .rla => 1
  | .rlca => 1
  | .rra => 1
  | .rrca => 1
  | .rlMhl => 2
  | .rlMix _ => 4
  | .rlMiy _ => 4
  | .rlR _ => 2
  | .rlcMhl => 2
  | .rlcMix _ => 4
  | .rlcMiy _ => 4
  | .rlcR _ => 2
  | .rrMhl => 2
  | .rrMix _ => 4
  | .rrMiy _ => 4
  | .rrR _ => 2
  | .rrcMhl => 2
  | .rrcMix _ => 4
  | .rrcMiy _ => 4
  | .rrcR _ => 2
  | .slaMhl => 2
  | .slaMix _ => 4
  | .slaMiy _ => 4
  | .slaR _ => 2
  | .sraMhl => 2
  | .sraMix _ => 4
  | .sraMiy _ => 4
  | .sraR _ => 2
  | .srlMhl => 2
  | .srlMix _ => 4
  | .srlMiy _ => 4
  | .srlR _ => 2
  | .altd j => 1 + instrLength j
  | .ioe j => 1 + instrLength j
  | .ioi j => 1 + instrLength j
  | .ldd => 2
  | .lddr => 2
  | .ldi => 2
  | .ldir => 2
  | .callMn _ => 3
  | .djnz _ => 2
  | .jpHL => 1
  | .jpIX => 2
  | .jpIY => 2
  | .jpF _ _ => 3
  | .jpMn _ => 3
  | .jrCC _ _ => 2
  | .jrE _ => 2
  | .lcall _ _ => 4
  | .ljp _ _ => 4
  | .lret => 2
  | .ret => 1
  | .retF _ => 1
  | .reti => 2
  | .rst _ => 1
  | .ccf => 1
  | .ipset0 => 2
  | .ipset1 => 2
  | .ipset2 => 2
  | .ipset3 => 2
  | .ipres => 2
  | .nop => 1
  | .scf => 1

/-- The rows whose Operation assigns PC, or that repeat: 18.17, `LDIR` and `LDDR` (48_control.md, 47 R315). -/
def isControl : Instr → Bool
  | .ldIXmn _ => false
  | .ldIYmn _ => false
  | .ldDDmn _ _ => false
  | .ldRN _ _ => false
  | .ldMmnA _ => false
  | .ldAMmn _ => false
  | .ldMmnHL _ => false
  | .ldMmnIX _ => false
  | .ldMmnIY _ => false
  | .ldMmnSS _ _ => false
  | .ldHLMmn _ => false
  | .ldIXMmn _ => false
  | .ldIYMmn _ => false
  | .ldDDMmn _ _ => false
  | .ldAMbc => false
  | .ldAMde => false
  | .ldMbcA => false
  | .ldMdeA => false
  | .ldMhlN _ => false
  | .ldMhlR _ => false
  | .ldRMhl _ => false
  | .ldMixN _ _ => false
  | .ldMixR _ _ => false
  | .ldRMix _ _ => false
  | .ldMiyN _ _ => false
  | .ldMiyR _ _ => false
  | .ldRMiy _ _ => false
  | .ldMhldHL _ => false
  | .ldHLMhld _ => false
  | .ldMspHL _ => false
  | .ldMspIX _ => false
  | .ldMspIY _ => false
  | .ldHLMsp _ => false
  | .ldIXMsp _ => false
  | .ldIYMsp _ => false
  | .ldMixHL _ => false
  | .ldHLMix _ => false
  | .ldMiyHL _ => false
  | .ldHLMiy _ => false
  | .ldpMhlHL => false
  | .ldpMixHL => false
  | .ldpMiyHL => false
  | .ldpHLMhl => false
  | .ldpHLMix => false
  | .ldpHLMiy => false
  | .ldpMmnHL _ => false
  | .ldpMmnIX _ => false
  | .ldpMmnIY _ => false
  | .ldpHLMmn _ => false
  | .ldpIXMmn _ => false
  | .ldpIYMmn _ => false
  | .ldRG _ _ => false
  | .ldAEIR => false
  | .ldAIIR => false
  | .ldAXPC => false
  | .ldEIRA => false
  | .ldIIRA => false
  | .ldXPCA => false
  | .ldHLIX => false
  | .ldHLIY => false
  | .ldIXHL => false
  | .ldIYHL => false
  | .ldSPHL => false
  | .ldSPIX => false
  | .ldSPIY => false
  | .ldDDaBC _ => false
  | .ldDDaDE _ => false
  | .exMspHL => false
  | .exMspIX => false
  | .exMspIY => false
  | .exAF => false
  | .exDEaHL => false
  | .exDEaHLa => false
  | .exDEHL => false
  | .exDEHLa => false
  | .exx => false
  | .addSPd _ => false
  | .popIP => false
  | .popIX => false
  | .popIY => false
  | .popZZ _ => false
  | .pushIP => false
  | .pushIX => false
  | .pushIY => false
  | .pushZZ _ => false
  | .adcHLss _ => false
  | .addHLss _ => false
  | .addIXxx _ => false
  | .addIYyy _ => false
  | .andHLDE => false
  | .andIXDE => false
  | .andIYDE => false
  | .boolHL => false
  | .boolIX => false
  | .boolIY => false
  | .decIX => false
  | .decIY => false
  | .decSS _ => false
  | .incIX => false
  | .incIY => false
  | .incSS _ => false
  | .mul => false
  | .orHLDE => false
  | .orIXDE => false
  | .orIYDE => false
  | .rlDE => false
  | .rrDE => false
  | .rrHL => false
  | .rrIX => false
  | .rrIY => false
  | .sbcHLss _ => false
  | .adcMhl => false
  | .adcMix _ => false
  | .adcMiy _ => false
  | .adcN _ => false
  | .adcR _ => false
  | .addMhl => false
  | .addMix _ => false
  | .addMiy _ => false
  | .addN _ => false
  | .addR _ => false
  | .andMhl => false
  | .andMix _ => false
  | .andMiy _ => false
  | .andN _ => false
  | .andR _ => false
  | .cpMhl => false
  | .cpMix _ => false
  | .cpMiy _ => false
  | .cpN _ => false
  | .cpR _ => false
  | .orMhl => false
  | .orMix _ => false
  | .orMiy _ => false
  | .orN _ => false
  | .orR _ => false
  | .sbcMix _ => false
  | .sbcMiy _ => false
  | .sbcMhl => false
  | .sbcN _ => false
  | .sbcR _ => false
  | .subMhl => false
  | .subMix _ => false
  | .subMiy _ => false
  | .subN _ => false
  | .subR _ => false
  | .xorMhl => false
  | .xorMix _ => false
  | .xorMiy _ => false
  | .xorN _ => false
  | .xorR _ => false
  | .bitMhl _ => false
  | .bitMix _ _ => false
  | .bitMiy _ _ => false
  | .bitR _ _ => false
  | .resMhl _ => false
  | .resMix _ _ => false
  | .resMiy _ _ => false
  | .resR _ _ => false
  | .setMhl _ => false
  | .setMix _ _ => false
  | .setMiy _ _ => false
  | .setR _ _ => false
  | .decMhl => false
  | .decMix _ => false
  | .decMiy _ => false
  | .decR _ => false
  | .incMhl => false
  | .incMix _ => false
  | .incMiy _ => false
  | .incR _ => false
  | .cpl => false
  | .neg => false
  | .rla => false
  | .rlca => false
  | .rra => false
  | .rrca => false
  | .rlMhl => false
  | .rlMix _ => false
  | .rlMiy _ => false
  | .rlR _ => false
  | .rlcMhl => false
  | .rlcMix _ => false
  | .rlcMiy _ => false
  | .rlcR _ => false
  | .rrMhl => false
  | .rrMix _ => false
  | .rrMiy _ => false
  | .rrR _ => false
  | .rrcMhl => false
  | .rrcMix _ => false
  | .rrcMiy _ => false
  | .rrcR _ => false
  | .slaMhl => false
  | .slaMix _ => false
  | .slaMiy _ => false
  | .slaR _ => false
  | .sraMhl => false
  | .sraMix _ => false
  | .sraMiy _ => false
  | .sraR _ => false
  | .srlMhl => false
  | .srlMix _ => false
  | .srlMiy _ => false
  | .srlR _ => false
  | .altd _ => false
  | .ioe _ => false
  | .ioi _ => false
  | .ldd => false
  | .lddr => true
  | .ldi => false
  | .ldir => true
  | .callMn _ => true
  | .djnz _ => true
  | .jpHL => true
  | .jpIX => true
  | .jpIY => true
  | .jpF _ _ => true
  | .jpMn _ => true
  | .jrCC _ _ => true
  | .jrE _ => true
  | .lcall _ _ => true
  | .ljp _ _ => true
  | .lret => true
  | .ret => true
  | .retF _ => true
  | .reti => true
  | .rst _ => true
  | .ccf => false
  | .ipset0 => false
  | .ipset1 => false
  | .ipset2 => false
  | .ipset3 => false
  | .ipres => false
  | .nop => false
  | .scf => false

/-- A register of 10_state.md R10 that an instruction can name as a destination; F, F' and PC are spoken of apart. -/
inductive Reg where
  | main (r : R8)
  | alt (r : R8)
  | ix | iy | sp | xpc | ip | iir | eir
  deriving DecidableEq, Repr

/-- `D(r)`: the register of the main set, or of the alternate set under ALTD (00_scope.md R6). -/
def Reg.dest (alt : Bool) (r : R8) : Reg := if alt then .alt r else .main r

/-- `D(dd)`: both halves, or SP, which has no alternate (00_scope.md R6, 10_state.md R14). -/
def Reg.destSS (alt : Bool) : SS → List Reg
  | .bc => [Reg.dest alt .b, Reg.dest alt .c]
  | .de => [Reg.dest alt .d, Reg.dest alt .e]
  | .hl => [Reg.dest alt .h, Reg.dest alt .l]
  | .sp => [.sp]

/-- `D(zz)`; of AF, the half A (00_scope.md R6). -/
def Reg.destZZ (alt : Bool) : ZZ → List Reg
  | .bc => [Reg.dest alt .b, Reg.dest alt .c]
  | .de => [Reg.dest alt .d, Reg.dest alt .e]
  | .hl => [Reg.dest alt .h, Reg.dest alt .l]
  | .af => [Reg.dest alt .a]

/-- `dd'`: both halves of the alternate pair (00_scope.md R8). -/
def Reg.destDDa : DDa → List Reg
  | .bc => [.alt .b, .alt .c]
  | .de => [.alt .d, .alt .e]
  | .hl => [.alt .h, .alt .l]

/-- The registers, F, F' and PC apart, that the Operation column of a row writes, under ALTD (`alt`) or without: the
destination, and SP, the counters and pointers that the row names beside it. -/
def destRegs (alt : Bool) : Instr → List Reg
  | .ldIXmn _ => [.ix]
  | .ldIYmn _ => [.iy]
  | .ldDDmn dd _ => Reg.destSS alt dd
  | .ldRN r _ => [Reg.dest alt r]
  | .ldMmnA _ => []
  | .ldAMmn _ => [Reg.dest alt .a]
  | .ldMmnHL _ => []
  | .ldMmnIX _ => []
  | .ldMmnIY _ => []
  | .ldMmnSS _ _ => []
  | .ldHLMmn _ => Reg.destSS alt .hl
  | .ldIXMmn _ => [.ix]
  | .ldIYMmn _ => [.iy]
  | .ldDDMmn dd _ => Reg.destSS alt dd
  | .ldAMbc => [Reg.dest alt .a]
  | .ldAMde => [Reg.dest alt .a]
  | .ldMbcA => []
  | .ldMdeA => []
  | .ldMhlN _ => []
  | .ldMhlR _ => []
  | .ldRMhl r => [Reg.dest alt r]
  | .ldMixN _ _ => []
  | .ldMixR _ _ => []
  | .ldRMix r _ => [Reg.dest alt r]
  | .ldMiyN _ _ => []
  | .ldMiyR _ _ => []
  | .ldRMiy r _ => [Reg.dest alt r]
  | .ldMhldHL _ => []
  | .ldHLMhld _ => Reg.destSS alt .hl
  | .ldMspHL _ => []
  | .ldMspIX _ => []
  | .ldMspIY _ => []
  | .ldHLMsp _ => Reg.destSS alt .hl
  | .ldIXMsp _ => [.ix]
  | .ldIYMsp _ => [.iy]
  | .ldMixHL _ => []
  | .ldHLMix _ => Reg.destSS alt .hl
  | .ldMiyHL _ => []
  | .ldHLMiy _ => Reg.destSS alt .hl
  | .ldpMhlHL => []
  | .ldpMixHL => []
  | .ldpMiyHL => []
  | .ldpHLMhl => [.main .h, .main .l]
  | .ldpHLMix => [.main .h, .main .l]
  | .ldpHLMiy => [.main .h, .main .l]
  | .ldpMmnHL _ => []
  | .ldpMmnIX _ => []
  | .ldpMmnIY _ => []
  | .ldpHLMmn _ => [.main .h, .main .l]
  | .ldpIXMmn _ => [.ix]
  | .ldpIYMmn _ => [.iy]
  | .ldRG r _ => [Reg.dest alt r]
  | .ldAEIR => [Reg.dest alt .a]
  | .ldAIIR => [Reg.dest alt .a]
  | .ldAXPC => [Reg.dest alt .a]
  | .ldEIRA => [.eir]
  | .ldIIRA => [.iir]
  | .ldXPCA => [.xpc]
  | .ldHLIX => Reg.destSS alt .hl
  | .ldHLIY => Reg.destSS alt .hl
  | .ldIXHL => [.ix]
  | .ldIYHL => [.iy]
  | .ldSPHL => [.sp]
  | .ldSPIX => [.sp]
  | .ldSPIY => [.sp]
  | .ldDDaBC dd => Reg.destDDa dd
  | .ldDDaDE dd => Reg.destDDa dd
  | .exMspHL => Reg.destSS alt .hl
  | .exMspIX => [.ix]
  | .exMspIY => [.iy]
  | .exAF => [.main .a, .alt .a]
  | .exDEaHL => if alt then [.alt .d, .alt .e, .alt .h, .alt .l] else [.alt .d, .alt .e, .main .h, .main .l]
  | .exDEaHLa => [.alt .d, .alt .e, .alt .h, .alt .l]
  | .exDEHL => if alt then [.main .d, .main .e, .alt .h, .alt .l] else [.main .d, .main .e, .main .h, .main .l]
  | .exDEHLa => [.main .d, .main .e, .alt .h, .alt .l]
  | .exx => [.main .b, .main .c, .main .d, .main .e, .main .h, .main .l, .alt .b, .alt .c, .alt .d, .alt .e, .alt .h, .alt .l]
  | .addSPd _ => [.sp]
  | .popIP => [.ip, .sp]
  | .popIX => [.ix, .sp]
  | .popIY => [.iy, .sp]
  | .popZZ zz => Reg.destZZ alt zz ++ [.sp]
  | .pushIP => [.sp]
  | .pushIX => [.sp]
  | .pushIY => [.sp]
  | .pushZZ _ => [.sp]
  | .adcHLss _ => Reg.destSS alt .hl
  | .addHLss _ => Reg.destSS alt .hl
  | .addIXxx _ => [.ix]
  | .addIYyy _ => [.iy]
  | .andHLDE => Reg.destSS alt .hl
  | .andIXDE => [.ix]
  | .andIYDE => [.iy]
  | .boolHL => Reg.destSS alt .hl
  | .boolIX => [.ix]
  | .boolIY => [.iy]
  | .decIX => [.ix]
  | .decIY => [.iy]
  | .decSS ss => Reg.destSS alt ss
  | .incIX => [.ix]
  | .incIY => [.iy]
  | .incSS ss => Reg.destSS alt ss
  | .mul => [.main .h, .main .l, .main .b, .main .c]
  | .orHLDE => Reg.destSS alt .hl
  | .orIXDE => [.ix]
  | .orIYDE => [.iy]
  | .rlDE => Reg.destSS alt .de
  | .rrDE => Reg.destSS alt .de
  | .rrHL => Reg.destSS alt .hl
  | .rrIX => [.ix]
  | .rrIY => [.iy]
  | .sbcHLss _ => Reg.destSS alt .hl
  | .adcMhl => [Reg.dest alt .a]
  | .adcMix _ => [Reg.dest alt .a]
  | .adcMiy _ => [Reg.dest alt .a]
  | .adcN _ => [Reg.dest alt .a]
  | .adcR _ => [Reg.dest alt .a]
  | .addMhl => [Reg.dest alt .a]
  | .addMix _ => [Reg.dest alt .a]
  | .addMiy _ => [Reg.dest alt .a]
  | .addN _ => [Reg.dest alt .a]
  | .addR _ => [Reg.dest alt .a]
  | .andMhl => [Reg.dest alt .a]
  | .andMix _ => [Reg.dest alt .a]
  | .andMiy _ => [Reg.dest alt .a]
  | .andN _ => [Reg.dest alt .a]
  | .andR _ => [Reg.dest alt .a]
  | .cpMhl => []
  | .cpMix _ => []
  | .cpMiy _ => []
  | .cpN _ => []
  | .cpR _ => []
  | .orMhl => [Reg.dest alt .a]
  | .orMix _ => [Reg.dest alt .a]
  | .orMiy _ => [Reg.dest alt .a]
  | .orN _ => [Reg.dest alt .a]
  | .orR _ => [Reg.dest alt .a]
  | .sbcMix _ => [Reg.dest alt .a]
  | .sbcMiy _ => [Reg.dest alt .a]
  | .sbcMhl => [Reg.dest alt .a]
  | .sbcN _ => [Reg.dest alt .a]
  | .sbcR _ => [Reg.dest alt .a]
  | .subMhl => [Reg.dest alt .a]
  | .subMix _ => [Reg.dest alt .a]
  | .subMiy _ => [Reg.dest alt .a]
  | .subN _ => [Reg.dest alt .a]
  | .subR _ => [Reg.dest alt .a]
  | .xorMhl => [Reg.dest alt .a]
  | .xorMix _ => [Reg.dest alt .a]
  | .xorMiy _ => [Reg.dest alt .a]
  | .xorN _ => [Reg.dest alt .a]
  | .xorR _ => [Reg.dest alt .a]
  | .bitMhl _ => []
  | .bitMix _ _ => []
  | .bitMiy _ _ => []
  | .bitR _ _ => []
  | .resMhl _ => []
  | .resMix _ _ => []
  | .resMiy _ _ => []
  | .resR _ r => [Reg.dest alt r]
  | .setMhl _ => []
  | .setMix _ _ => []
  | .setMiy _ _ => []
  | .setR _ r => [Reg.dest alt r]
  | .decMhl => []
  | .decMix _ => []
  | .decMiy _ => []
  | .decR r => [Reg.dest alt r]
  | .incMhl => []
  | .incMix _ => []
  | .incMiy _ => []
  | .incR r => [Reg.dest alt r]
  | .cpl => [Reg.dest alt .a]
  | .neg => [Reg.dest alt .a]
  | .rla => [Reg.dest alt .a]
  | .rlca => [Reg.dest alt .a]
  | .rra => [Reg.dest alt .a]
  | .rrca => [Reg.dest alt .a]
  | .rlMhl => []
  | .rlMix _ => []
  | .rlMiy _ => []
  | .rlR r => [Reg.dest alt r]
  | .rlcMhl => []
  | .rlcMix _ => []
  | .rlcMiy _ => []
  | .rlcR r => [Reg.dest alt r]
  | .rrMhl => []
  | .rrMix _ => []
  | .rrMiy _ => []
  | .rrR r => [Reg.dest alt r]
  | .rrcMhl => []
  | .rrcMix _ => []
  | .rrcMiy _ => []
  | .rrcR r => [Reg.dest alt r]
  | .slaMhl => []
  | .slaMix _ => []
  | .slaMiy _ => []
  | .slaR r => [Reg.dest alt r]
  | .sraMhl => []
  | .sraMix _ => []
  | .sraMiy _ => []
  | .sraR r => [Reg.dest alt r]
  | .srlMhl => []
  | .srlMix _ => []
  | .srlMiy _ => []
  | .srlR r => [Reg.dest alt r]
  | .altd _ => []
  | .ioe _ => []
  | .ioi _ => []
  | .ldd => [.main .b, .main .c, .main .d, .main .e, .main .h, .main .l]
  | .lddr => [.main .b, .main .c, .main .d, .main .e, .main .h, .main .l]
  | .ldi => [.main .b, .main .c, .main .d, .main .e, .main .h, .main .l]
  | .ldir => [.main .b, .main .c, .main .d, .main .e, .main .h, .main .l]
  | .callMn _ => [.sp]
  | .djnz _ => [Reg.dest alt .b]
  | .jpHL => []
  | .jpIX => []
  | .jpIY => []
  | .jpF _ _ => []
  | .jpMn _ => []
  | .jrCC _ _ => []
  | .jrE _ => []
  | .lcall _ _ => [.sp, .xpc]
  | .ljp _ _ => [.xpc]
  | .lret => [.sp, .xpc]
  | .ret => [.sp]
  | .retF _ => [.sp]
  | .reti => [.sp, .ip]
  | .rst _ => [.sp]
  | .ccf => []
  | .ipset0 => [.ip]
  | .ipset1 => [.ip]
  | .ipset2 => [.ip]
  | .ipset3 => [.ip]
  | .ipres => [.ip]
  | .nop => []
  | .scf => []

end Sys2Proof
end

