-- ==== Sys2Proof/Machine/Stores.lean ====
section
/-!
DEFINITION. Where each row stores: the physical addresses of the bytes an instruction writes to memory under a prefix
set, with the effective addresses of spec/20_memory.md R45. It is what the frame of memory is stated with.
-/
namespace Sys2Proof.Machine

/-- One byte at logical address `a`; none in memory when an I/O prefix moves the operand (20_memory.md R48). -/
def storeBytes1 (s : State) (io : Option IoSpace) (a : Word) : List Phys :=
  match io with
  | none => [s.phys a]
  | some _ => []

/-- Two bytes at logical addresses `a` and `a + 1` (20_memory.md R41). -/
def storeBytes2 (s : State) (io : Option IoSpace) (a : Word) : List Phys :=
  match io with
  | none => [s.phys a, s.phys (a + 1)]
  | some _ => []

/-- The physical addresses a row stores to under the prefix set `c`; a prefix row stores what the row behind it
stores. -/
def storedAt : Instr → Ctx → State → List Phys
  | .ldIXmn _, _, _ => []
  | .ldIYmn _, _, _ => []
  | .ldDDmn _ _, _, _ => []
  | .ldRN _ _, _, _ => []
  | .ldMmnA mn, c, s => storeBytes1 s c.io mn
  | .ldAMmn _, _, _ => []
  | .ldMmnHL mn, c, s => storeBytes2 s c.io mn
  | .ldMmnIX mn, c, s => storeBytes2 s c.io mn
  | .ldMmnIY mn, c, s => storeBytes2 s c.io mn
  | .ldMmnSS mn _, c, s => storeBytes2 s c.io mn
  | .ldHLMmn _, _, _ => []
  | .ldIXMmn _, _, _ => []
  | .ldIYMmn _, _, _ => []
  | .ldDDMmn _ _, _, _ => []
  | .ldAMbc, _, _ => []
  | .ldAMde, _, _ => []
  | .ldMbcA, c, s => storeBytes1 s c.io s.bc
  | .ldMdeA, c, s => storeBytes1 s c.io s.de
  | .ldMhlN _, c, s => storeBytes1 s c.io s.hl
  | .ldMhlR _, c, s => storeBytes1 s c.io s.hl
  | .ldRMhl _, _, _ => []
  | .ldMixN d _, c, s => storeBytes1 s c.io (s.eaIX d)
  | .ldMixR d _, c, s => storeBytes1 s c.io (s.eaIX d)
  | .ldRMix _ _, _, _ => []
  | .ldMiyN d _, c, s => storeBytes1 s c.io (s.eaIY d)
  | .ldMiyR d _, c, s => storeBytes1 s c.io (s.eaIY d)
  | .ldRMiy _ _, _, _ => []
  | .ldMhldHL d, c, s => storeBytes2 s c.io (s.eaHL d)
  | .ldHLMhld _, _, _ => []
  | .ldMspHL n, _, s => storeBytes2 s none (s.eaSP n)
  | .ldMspIX n, _, s => storeBytes2 s none (s.eaSP n)
  | .ldMspIY n, _, s => storeBytes2 s none (s.eaSP n)
  | .ldHLMsp _, _, _ => []
  | .ldIXMsp _, _, _ => []
  | .ldIYMsp _, _, _ => []
  | .ldMixHL d, c, s => storeBytes2 s c.io (s.eaIX d)
  | .ldHLMix _, _, _ => []
  | .ldMiyHL d, c, s => storeBytes2 s c.io (s.eaIY d)
  | .ldHLMiy _, _, _ => []
  | .ldpMhlHL, _, s => [s.ldpAddr s.hl, s.ldpAddr (s.hl + 1)]
  | .ldpMixHL, _, s => [s.ldpAddr s.ix, s.ldpAddr (s.ix + 1)]
  | .ldpMiyHL, _, s => [s.ldpAddr s.iy, s.ldpAddr (s.iy + 1)]
  | .ldpHLMhl, _, _ => []
  | .ldpHLMix, _, _ => []
  | .ldpHLMiy, _, _ => []
  | .ldpMmnHL mn, _, s => [s.ldpAddr mn, s.ldpAddr (mn + 1)]
  | .ldpMmnIX mn, _, s => [s.ldpAddr mn, s.ldpAddr (mn + 1)]
  | .ldpMmnIY mn, _, s => [s.ldpAddr mn, s.ldpAddr (mn + 1)]
  | .ldpHLMmn _, _, _ => []
  | .ldpIXMmn _, _, _ => []
  | .ldpIYMmn _, _, _ => []
  | .ldRG _ _, _, _ => []
  | .ldAEIR, _, _ => []
  | .ldAIIR, _, _ => []
  | .ldAXPC, _, _ => []
  | .ldEIRA, _, _ => []
  | .ldIIRA, _, _ => []
  | .ldXPCA, _, _ => []
  | .ldHLIX, _, _ => []
  | .ldHLIY, _, _ => []
  | .ldIXHL, _, _ => []
  | .ldIYHL, _, _ => []
  | .ldSPHL, _, _ => []
  | .ldSPIX, _, _ => []
  | .ldSPIY, _, _ => []
  | .ldDDaBC _, _, _ => []
  | .ldDDaDE _, _, _ => []
  | .exMspHL, _, s => storeBytes2 s none s.sp
  | .exMspIX, _, s => storeBytes2 s none s.sp
  | .exMspIY, _, s => storeBytes2 s none s.sp
  | .exAF, _, _ => []
  | .exDEaHL, _, _ => []
  | .exDEaHLa, _, _ => []
  | .exDEHL, _, _ => []
  | .exDEHLa, _, _ => []
  | .exx, _, _ => []
  | .addSPd _, _, _ => []
  | .popIP, _, _ => []
  | .popIX, _, _ => []
  | .popIY, _, _ => []
  | .popZZ _, _, _ => []
  | .pushIP, _, s => storeBytes1 s none (s.sp - 1)
  | .pushIX, _, s => [s.phys (s.sp - 1), s.phys (s.sp - 2)]
  | .pushIY, _, s => [s.phys (s.sp - 1), s.phys (s.sp - 2)]
  | .pushZZ _, _, s => [s.phys (s.sp - 1), s.phys (s.sp - 2)]
  | .adcHLss _, _, _ => []
  | .addHLss _, _, _ => []
  | .addIXxx _, _, _ => []
  | .addIYyy _, _, _ => []
  | .andHLDE, _, _ => []
  | .andIXDE, _, _ => []
  | .andIYDE, _, _ => []
  | .boolHL, _, _ => []
  | .boolIX, _, _ => []
  | .boolIY, _, _ => []
  | .decIX, _, _ => []
  | .decIY, _, _ => []
  | .decSS _, _, _ => []
  | .incIX, _, _ => []
  | .incIY, _, _ => []
  | .incSS _, _, _ => []
  | .mul, _, _ => []
  | .orHLDE, _, _ => []
  | .orIXDE, _, _ => []
  | .orIYDE, _, _ => []
  | .rlDE, _, _ => []
  | .rrDE, _, _ => []
  | .rrHL, _, _ => []
  | .rrIX, _, _ => []
  | .rrIY, _, _ => []
  | .sbcHLss _, _, _ => []
  | .adcMhl, _, _ => []
  | .adcMix _, _, _ => []
  | .adcMiy _, _, _ => []
  | .adcN _, _, _ => []
  | .adcR _, _, _ => []
  | .addMhl, _, _ => []
  | .addMix _, _, _ => []
  | .addMiy _, _, _ => []
  | .addN _, _, _ => []
  | .addR _, _, _ => []
  | .andMhl, _, _ => []
  | .andMix _, _, _ => []
  | .andMiy _, _, _ => []
  | .andN _, _, _ => []
  | .andR _, _, _ => []
  | .cpMhl, _, _ => []
  | .cpMix _, _, _ => []
  | .cpMiy _, _, _ => []
  | .cpN _, _, _ => []
  | .cpR _, _, _ => []
  | .orMhl, _, _ => []
  | .orMix _, _, _ => []
  | .orMiy _, _, _ => []
  | .orN _, _, _ => []
  | .orR _, _, _ => []
  | .sbcMix _, _, _ => []
  | .sbcMiy _, _, _ => []
  | .sbcMhl, _, _ => []
  | .sbcN _, _, _ => []
  | .sbcR _, _, _ => []
  | .subMhl, _, _ => []
  | .subMix _, _, _ => []
  | .subMiy _, _, _ => []
  | .subN _, _, _ => []
  | .subR _, _, _ => []
  | .xorMhl, _, _ => []
  | .xorMix _, _, _ => []
  | .xorMiy _, _, _ => []
  | .xorN _, _, _ => []
  | .xorR _, _, _ => []
  | .bitMhl _, _, _ => []
  | .bitMix _ _, _, _ => []
  | .bitMiy _ _, _, _ => []
  | .bitR _ _, _, _ => []
  | .resMhl _, c, s => storeBytes1 s c.io s.hl
  | .resMix _ d, c, s => storeBytes1 s c.io (s.eaIX d)
  | .resMiy _ d, c, s => storeBytes1 s c.io (s.eaIY d)
  | .resR _ _, _, _ => []
  | .setMhl _, c, s => storeBytes1 s c.io s.hl
  | .setMix _ d, c, s => storeBytes1 s c.io (s.eaIX d)
  | .setMiy _ d, c, s => storeBytes1 s c.io (s.eaIY d)
  | .setR _ _, _, _ => []
  | .decMhl, c, s => storeBytes1 s c.io s.hl
  | .decMix d, c, s => storeBytes1 s c.io (s.eaIX d)
  | .decMiy d, c, s => storeBytes1 s c.io (s.eaIY d)
  | .decR _, _, _ => []
  | .incMhl, c, s => storeBytes1 s c.io s.hl
  | .incMix d, c, s => storeBytes1 s c.io (s.eaIX d)
  | .incMiy d, c, s => storeBytes1 s c.io (s.eaIY d)
  | .incR _, _, _ => []
  | .cpl, _, _ => []
  | .neg, _, _ => []
  | .rla, _, _ => []
  | .rlca, _, _ => []
  | .rra, _, _ => []
  | .rrca, _, _ => []
  | .rlMhl, c, s => storeBytes1 s c.io s.hl
  | .rlMix d, c, s => storeBytes1 s c.io (s.eaIX d)
  | .rlMiy d, c, s => storeBytes1 s c.io (s.eaIY d)
  | .rlR _, _, _ => []
  | .rlcMhl, c, s => storeBytes1 s c.io s.hl
  | .rlcMix d, c, s => storeBytes1 s c.io (s.eaIX d)
  | .rlcMiy d, c, s => storeBytes1 s c.io (s.eaIY d)
  | .rlcR _, _, _ => []
  | .rrMhl, c, s => storeBytes1 s c.io s.hl
  | .rrMix d, c, s => storeBytes1 s c.io (s.eaIX d)
  | .rrMiy d, c, s => storeBytes1 s c.io (s.eaIY d)
  | .rrR _, _, _ => []
  | .rrcMhl, c, s => storeBytes1 s c.io s.hl
  | .rrcMix d, c, s => storeBytes1 s c.io (s.eaIX d)
  | .rrcMiy d, c, s => storeBytes1 s c.io (s.eaIY d)
  | .rrcR _, _, _ => []
  | .slaMhl, c, s => storeBytes1 s c.io s.hl
  | .slaMix d, c, s => storeBytes1 s c.io (s.eaIX d)
  | .slaMiy d, c, s => storeBytes1 s c.io (s.eaIY d)
  | .slaR _, _, _ => []
  | .sraMhl, c, s => storeBytes1 s c.io s.hl
  | .sraMix d, c, s => storeBytes1 s c.io (s.eaIX d)
  | .sraMiy d, c, s => storeBytes1 s c.io (s.eaIY d)
  | .sraR _, _, _ => []
  | .srlMhl, c, s => storeBytes1 s c.io s.hl
  | .srlMix d, c, s => storeBytes1 s c.io (s.eaIX d)
  | .srlMiy d, c, s => storeBytes1 s c.io (s.eaIY d)
  | .srlR _, _, _ => []
  | .altd j, c, s => storedAt j c.withAlt s
  | .ioe j, c, s => storedAt j (c.withIo .ext) s
  | .ioi j, c, s => storedAt j (c.withIo .int) s
  | .ldd, c, s => storeBytes1 s c.io s.de
  | .lddr, c, s => storeBytes1 s c.io s.de
  | .ldi, c, s => storeBytes1 s c.io s.de
  | .ldir, c, s => storeBytes1 s c.io s.de
  | .callMn _, _, s => [s.phys (s.sp - 1), s.phys (s.sp - 2)]
  | .djnz _, _, _ => []
  | .jpHL, _, _ => []
  | .jpIX, _, _ => []
  | .jpIY, _, _ => []
  | .jpF _ _, _, _ => []
  | .jpMn _, _, _ => []
  | .jrCC _ _, _, _ => []
  | .jrE _, _, _ => []
  | .lcall _ _, _, s => [s.phys (s.sp - 1), s.phys (s.sp - 2), s.phys (s.sp - 3)]
  | .ljp _ _, _, _ => []
  | .lret, _, _ => []
  | .ret, _, _ => []
  | .retF _, _, _ => []
  | .reti, _, _ => []
  | .rst _, _, s => [s.phys (s.sp - 1), s.phys (s.sp - 2)]
  | .ccf, _, _ => []
  | .ipset0, _, _ => []
  | .ipset1, _, _ => []
  | .ipset2, _, _ => []
  | .ipset3, _, _ => []
  | .ipres, _, _ => []
  | .nop, _, _ => []
  | .scf, _, _ => []

end Sys2Proof.Machine
end

