-- ==== Sys2Proof/Machine/Timing.lean ====
section
/-!
DEFINITION. The clock figures (column `clk` of spec/opcode_table.json, 70_reset_and_hazards.md R440, R441). No rule
depends on them and they are not state (10_state.md R27, log 25): this function stands beside the machine.
-/
namespace Sys2Proof.Machine

/-- The `clk` figure of a row, without prefixes, for one execution from state `s`: `RET f` is 8 when the return is made
and 2 when it is not; one step of `LDIR` or `LDDR` is 7, and 6 more at its first step (47_prefix_block.md R315,
70_reset_and_hazards.md R440). -/
def rowClocks (firstStep : Bool) : Instr → State → Nat
  | .ldIXmn _, _ => 8
  | .ldIYmn _, _ => 8
  | .ldDDmn _ _, _ => 6
  | .ldRN _ _, _ => 4
  | .ldMmnA _, _ => 10
  | .ldAMmn _, _ => 9
  | .ldMmnHL _, _ => 13
  | .ldMmnIX _, _ => 15
  | .ldMmnIY _, _ => 15
  | .ldMmnSS _ _, _ => 15
  | .ldHLMmn _, _ => 11
  | .ldIXMmn _, _ => 13
  | .ldIYMmn _, _ => 13
  | .ldDDMmn _ _, _ => 13
  | .ldAMbc, _ => 6
  | .ldAMde, _ => 6
  | .ldMbcA, _ => 7
  | .ldMdeA, _ => 7
  | .ldMhlN _, _ => 7
  | .ldMhlR _, _ => 6
  | .ldRMhl _, _ => 5
  | .ldMixN _ _, _ => 11
  | .ldMixR _ _, _ => 10
  | .ldRMix _ _, _ => 9
  | .ldMiyN _ _, _ => 11
  | .ldMiyR _ _, _ => 10
  | .ldRMiy _ _, _ => 9
  | .ldMhldHL _, _ => 13
  | .ldHLMhld _, _ => 11
  | .ldMspHL _, _ => 11
  | .ldMspIX _, _ => 13
  | .ldMspIY _, _ => 13
  | .ldHLMsp _, _ => 9
  | .ldIXMsp _, _ => 11
  | .ldIYMsp _, _ => 11
  | .ldMixHL _, _ => 11
  | .ldHLMix _, _ => 9
  | .ldMiyHL _, _ => 13
  | .ldHLMiy _, _ => 11
  | .ldpMhlHL, _ => 12
  | .ldpMixHL, _ => 12
  | .ldpMiyHL, _ => 12
  | .ldpHLMhl, _ => 10
  | .ldpHLMix, _ => 10
  | .ldpHLMiy, _ => 10
  | .ldpMmnHL _, _ => 15
  | .ldpMmnIX _, _ => 15
  | .ldpMmnIY _, _ => 15
  | .ldpHLMmn _, _ => 13
  | .ldpIXMmn _, _ => 13
  | .ldpIYMmn _, _ => 13
  | .ldRG _ _, _ => 2
  | .ldAEIR, _ => 4
  | .ldAIIR, _ => 4
  | .ldAXPC, _ => 4
  | .ldEIRA, _ => 4
  | .ldIIRA, _ => 4
  | .ldXPCA, _ => 4
  | .ldHLIX, _ => 4
  | .ldHLIY, _ => 4
  | .ldIXHL, _ => 4
  | .ldIYHL, _ => 4
  | .ldSPHL, _ => 2
  | .ldSPIX, _ => 4
  | .ldSPIY, _ => 4
  | .ldDDaBC _, _ => 4
  | .ldDDaDE _, _ => 4
  | .exMspHL, _ => 15
  | .exMspIX, _ => 15
  | .exMspIY, _ => 15
  | .exAF, _ => 2
  | .exDEaHL, _ => 2
  | .exDEaHLa, _ => 4
  | .exDEHL, _ => 2
  | .exDEHLa, _ => 4
  | .exx, _ => 2
  | .addSPd _, _ => 4
  | .popIP, _ => 7
  | .popIX, _ => 9
  | .popIY, _ => 9
  | .popZZ _, _ => 7
  | .pushIP, _ => 9
  | .pushIX, _ => 12
  | .pushIY, _ => 12
  | .pushZZ _, _ => 10
  | .adcHLss _, _ => 4
  | .addHLss _, _ => 2
  | .addIXxx _, _ => 4
  | .addIYyy _, _ => 4
  | .andHLDE, _ => 2
  | .andIXDE, _ => 4
  | .andIYDE, _ => 4
  | .boolHL, _ => 2
  | .boolIX, _ => 4
  | .boolIY, _ => 4
  | .decIX, _ => 4
  | .decIY, _ => 4
  | .decSS _, _ => 2
  | .incIX, _ => 4
  | .incIY, _ => 4
  | .incSS _, _ => 2
  | .mul, _ => 12
  | .orHLDE, _ => 2
  | .orIXDE, _ => 4
  | .orIYDE, _ => 4
  | .rlDE, _ => 2
  | .rrDE, _ => 2
  | .rrHL, _ => 2
  | .rrIX, _ => 4
  | .rrIY, _ => 4
  | .sbcHLss _, _ => 4
  | .adcMhl, _ => 5
  | .adcMix _, _ => 9
  | .adcMiy _, _ => 9
  | .adcN _, _ => 4
  | .adcR _, _ => 2
  | .addMhl, _ => 5
  | .addMix _, _ => 9
  | .addMiy _, _ => 9
  | .addN _, _ => 4
  | .addR _, _ => 2
  | .andMhl, _ => 5
  | .andMix _, _ => 9
  | .andMiy _, _ => 9
  | .andN _, _ => 4
  | .andR _, _ => 2
  | .cpMhl, _ => 5
  | .cpMix _, _ => 9
  | .cpMiy _, _ => 9
  | .cpN _, _ => 4
  | .cpR _, _ => 2
  | .orMhl, _ => 5
  | .orMix _, _ => 9
  | .orMiy _, _ => 9
  | .orN _, _ => 4
  | .orR _, _ => 2
  | .sbcMix _, _ => 9
  | .sbcMiy _, _ => 9
  | .sbcMhl, _ => 5
  | .sbcN _, _ => 4
  | .sbcR _, _ => 2
  | .subMhl, _ => 5
  | .subMix _, _ => 9
  | .subMiy _, _ => 9
  | .subN _, _ => 4
  | .subR _, _ => 2
  | .xorMhl, _ => 5
  | .xorMix _, _ => 9
  | .xorMiy _, _ => 9
  | .xorN _, _ => 4
  | .xorR _, _ => 2
  | .bitMhl _, _ => 7
  | .bitMix _ _, _ => 10
  | .bitMiy _ _, _ => 10
  | .bitR _ _, _ => 4
  | .resMhl _, _ => 10
  | .resMix _ _, _ => 13
  | .resMiy _ _, _ => 13
  | .resR _ _, _ => 4
  | .setMhl _, _ => 10
  | .setMix _ _, _ => 13
  | .setMiy _ _, _ => 13
  | .setR _ _, _ => 4
  | .decMhl, _ => 8
  | .decMix _, _ => 12
  | .decMiy _, _ => 12
  | .decR _, _ => 2
  | .incMhl, _ => 8
  | .incMix _, _ => 12
  | .incMiy _, _ => 12
  | .incR _, _ => 2
  | .cpl, _ => 2
  | .neg, _ => 4
  | .rla, _ => 2
  | .rlca, _ => 2
  | .rra, _ => 2
  | .rrca, _ => 2
  | .rlMhl, _ => 10
  | .rlMix _, _ => 13
  | .rlMiy _, _ => 13
  | .rlR _, _ => 4
  | .rlcMhl, _ => 10
  | .rlcMix _, _ => 13
  | .rlcMiy _, _ => 13
  | .rlcR _, _ => 4
  | .rrMhl, _ => 10
  | .rrMix _, _ => 13
  | .rrMiy _, _ => 13
  | .rrR _, _ => 4
  | .rrcMhl, _ => 10
  | .rrcMix _, _ => 13
  | .rrcMiy _, _ => 13
  | .rrcR _, _ => 4
  | .slaMhl, _ => 10
  | .slaMix _, _ => 13
  | .slaMiy _, _ => 13
  | .slaR _, _ => 4
  | .sraMhl, _ => 10
  | .sraMix _, _ => 13
  | .sraMiy _, _ => 13
  | .sraR _, _ => 4
  | .srlMhl, _ => 10
  | .srlMix _, _ => 13
  | .srlMiy _, _ => 13
  | .srlR _, _ => 4
  | .altd _, _ => 2
  | .ioe _, _ => 2
  | .ioi _, _ => 2
  | .ldd, _ => 10
  | .lddr, _ => if firstStep then 13 else 7
  | .ldi, _ => 10
  | .ldir, _ => if firstStep then 13 else 7
  | .callMn _, _ => 12
  | .djnz _, _ => 5
  | .jpHL, _ => 4
  | .jpIX, _ => 6
  | .jpIY, _ => 6
  | .jpF _ _, _ => 7
  | .jpMn _, _ => 7
  | .jrCC _ _, _ => 5
  | .jrE _, _ => 5
  | .lcall _ _, _ => 19
  | .ljp _ _, _ => 10
  | .lret, _ => 13
  | .ret, _ => 8
  | .retF f, s => if s.condF f then 8 else 2
  | .reti, _ => 12
  | .rst _, _ => 10
  | .ccf, _ => 2
  | .ipset0, _ => 4
  | .ipset1, _ => 4
  | .ipset2, _ => 4
  | .ipset3, _ => 4
  | .ipres, _ => 4
  | .nop, _ => 2
  | .scf, _ => 2

/-- The four block moves (47_prefix_block.md R314). -/
def isBlockMove : Instr → Bool
  | .ldi => true
  | .ldir => true
  | .ldd => true
  | .lddr => true
  | _ => false

/-- What an I/O prefix adds to each iteration of a block move: 1 for IOI, 2 and the wait states for IOE
(47_prefix_block.md R315, 70_reset_and_hazards.md R440). -/
def blockIoClocks (waitStates : Nat) : IoSpace → Nat
  | .int => 1
  | .ext => 2 + waitStates

/-- `LDIR` and `LDDR` (47_prefix_block.md R315). -/
def isRepeating : Instr → Bool
  | .ldir => true
  | .lddr => true
  | _ => false

/-- What the prefixes themselves cost: 2 clocks each, for every instruction; a repeating block move pays them once for
the whole move, at its first step (47_prefix_block.md R315, 70_reset_and_hazards.md R440). -/
def prefixClocks (firstStep : Bool) (p : Pfx) (i : Instr) : Nat :=
  if isRepeating i && !firstStep then 0 else 2 * p.bytes.length

/-- The clocks of one execution of an instruction with its prefixes (70_reset_and_hazards.md R440). `firstStep` says
whether an execution of `LDIR` or `LDDR` is the first since the instruction was entered from another one, and is of no
account for every other row; `waitStates` is the parameter `WAIT_STATES`. -/
def clocks (firstStep : Bool) (waitStates : Nat) (p : Pfx) (i : Instr) (s : State) : Nat :=
  rowClocks firstStep i s + prefixClocks firstStep p i +
    match p.io with
    | some sp => if isBlockMove i then blockIoClocks waitStates sp else 0
    | none => 0

end Sys2Proof.Machine
end

