-- ==== Sys2Proof/Safety.lean ====
section
/-!
DEFINITION. What counts as a safe run. No step faults (spec/60_exceptions.md R400), so a run stops only where the bytes
at PC are no instruction (30_encoding.md R69). A state is canonical when its memory is.
-/
namespace Sys2Proof.Machine

/-- Memory has its canonical form. -/
abbrev State.Canonical (s : State) : Prop := Memory.wf s.mem = true

/-- The bytes at PC are an instruction. -/
def State.AtInstruction (s : State) : Prop := ∃ i rest, decode s.fetchBytes = .ok (i, rest)

/-- The step goes on. -/
def State.Goes (s : State) : Prop := ∃ t, step s = .next t

/-- `t` is reached from `s` by a number of steps. -/
inductive Reaches : State → State → Prop
  /-- No step. -/
  | refl (s : State) : Reaches s s
  /-- One more step. -/
  | step (s t u : State) : Reaches s t → Sys2Proof.Machine.step t = .next u → Reaches s u

/-- Every state of every run from `s` can go on: the program never reaches bytes that are no instruction. -/
def State.SafeFrom (s : State) : Prop := ∀ t, Reaches s t → t.Goes

end Sys2Proof.Machine
end

