-- ==== Sys2Proof/Claims.lean ====
section
/-!
DEFINITION. The vocabulary of the statements: how an instruction with its prefixes runs, what its flags are, and the
operand forms that several rows share.
-/
namespace Sys2Proof

/-- The prefix set without its ALTD. -/
def Pfx.noAlt : Pfx → Pfx
  | .none => .none | .altd => .none | .ioi => .ioi | .ioe => .ioe
  | .altdIoi => .ioi | .ioiAltd => .ioi | .altdIoe => .ioe | .ioeAltd => .ioe

/-- The prefix set without its I/O prefix. -/
def Pfx.noIo : Pfx → Pfx
  | .none => .none | .altd => .altd | .ioi => .none | .ioe => .none
  | .altdIoi => .altd | .ioiAltd => .altd | .altdIoe => .altd | .ioeAltd => .altd

/-- The second bytes that page `ED` lists (30_encoding.md R67). -/
def opcodesED : List Byte :=
  [0x41, 0x42, 0x43, 0x44, 0x45, 0x46, 0x47, 0x49, 0x4A, 0x4B, 0x4D, 0x4E, 0x4F, 0x51, 0x52, 0x53, 0x54, 0x56, 0x57,
    0x59, 0x5A, 0x5B, 0x5D, 0x5E, 0x5F, 0x61, 0x62, 0x63, 0x64, 0x65, 0x67, 0x69, 0x6A, 0x6B, 0x6C, 0x6D, 0x72, 0x73,
    0x76, 0x77, 0x7A, 0x7B, 0x7E, 0xA0, 0xA8, 0xB0, 0xB8]

/-- The second bytes that page `DD`, and page `FD`, list, `CB` for the double page among them (30_encoding.md R67). -/
def opcodesIndex : List Byte :=
  [0x09, 0x19, 0x21, 0x22, 0x23, 0x29, 0x2A, 0x2B, 0x34, 0x35, 0x36, 0x39, 0x46, 0x4E, 0x56, 0x5E, 0x64, 0x65, 0x66,
    0x6C, 0x6D, 0x6E, 0x70, 0x71, 0x72, 0x73, 0x74, 0x75, 0x77, 0x7C, 0x7D, 0x7E, 0x86, 0x8E, 0x96, 0x9E, 0xA6, 0xAE,
    0xB6, 0xBE, 0xC4, 0xCB, 0xCC, 0xD4, 0xDC, 0xE1, 0xE3, 0xE4, 0xE5, 0xE9, 0xEC, 0xF4, 0xF9, 0xFC]

namespace Machine

/-- The register set that `D(..)` and `FD` name (spec/00_scope.md R6). -/
def State.bank (s : State) (alt : Bool) : Bank := if alt then s.alt else s.main

/-- The value of a register, a byte register extended with zeros. -/
def State.reg (s : State) : Reg → Word
  | .main r => zext (s.main.get r)
  | .alt r => zext (s.alt.get r)
  | .ix => s.ix
  | .iy => s.iy
  | .sp => s.sp
  | .xpc => zext s.xpc
  | .ip => zext s.ip
  | .iir => zext s.iir
  | .eir => zext s.eir

/-- From `s`, the instruction `i` behind the prefixes `p` completes: everything is as in `x`, PC is the address after
its `len` bytes and its prefixes, and it is not privileged. -/
def Runs (p : Pfx) (i : Instr) (s x : State) (len : Nat) : Prop :=
  exec (p.wrap i) s = .next { x with pc := s.pc + BitVec.ofNat 16 (p.bytes.length + len), inhibit := false }

/-- As `Runs`, for a privileged instruction (60_exceptions.md R406, R410). -/
def RunsPrivileged (p : Pfx) (i : Instr) (s x : State) (len : Nat) : Prop :=
  exec (p.wrap i) s = .next { x with pc := s.pc + BitVec.ofNat 16 (p.bytes.length + len), inhibit := true }

/-- From `s`, the instruction `i` behind the prefixes `p` completes with everything as in `x` and PC at `t`. -/
def JumpsTo (p : Pfx) (i : Instr) (s x : State) (t : Word) : Prop :=
  exec (p.wrap i) s = .next { x with pc := t, inhibit := false }

/-- The flag register `f` holds these flags, and the bits without a flag that `old` has. -/
def FlagsAre (f old : Byte) (s z lv c : Bool) : Prop :=
  flagS f = s ∧ flagZ f = z ∧ flagLV f = lv ∧ flagC f = c ∧
    f.getLsbD 1 = old.getLsbD 1 ∧ f.getLsbD 3 = old.getLsbD 3 ∧ f.getLsbD 4 = old.getLsbD 4 ∧
    f.getLsbD 5 = old.getLsbD 5

/-- As `Runs`, and the flags of F, or of F' under ALTD, become the given ones (10_state.md R16). -/
def RunsWithFlags (p : Pfx) (i : Instr) (s x : State) (len : Nat) (fs fz fv fc : Bool) : Prop :=
  ∃ f, FlagsAre f (s.bank p.hasAlt).f fs fz fv fc ∧ Runs p i s (x.updBank p.hasAlt fun k => { k with f := f }) len

/-- L/V of the register that the flags go to: what a row with `-` in the cell V leaves there. -/
def State.oldLV (s : State) (p : Pfx) : Bool := flagLV (s.bank p.hasAlt).f

/-- S of the register that the flags go to. -/
def State.oldS (s : State) (p : Pfx) : Bool := flagS (s.bank p.hasAlt).f

/-- Z of the register that the flags go to. -/
def State.oldZ (s : State) (p : Pfx) : Bool := flagZ (s.bank p.hasAlt).f

/-- C of the register that the flags go to. -/
def State.oldC (s : State) (p : Pfx) : Bool := flagC (s.bank p.hasAlt).f

/-- The exact signed result does not fit `w` bits: signed overflow. -/
def overflows (w : Nat) (x : Int) : Bool := decide (x < -(2 ^ (w - 1) : Int) ∨ (2 ^ (w - 1) : Int) ≤ x)

/-- One of the bits 7:4 is 1 (00_scope.md R7). -/
def highNibble (v : Byte) : Bool := decide (16 ≤ v.toNat)

/-- One of the bits 15:12 is 1 (00_scope.md R7). -/
def highNibble16 (v : Word) : Bool := decide (4096 ≤ v.toNat)

/-- The rows that move F as a whole: `POP AF` and `EX AF,AF'` (10_state.md R16). -/
def movesF : Instr → Bool
  | .popZZ .af => true
  | .exAF => true
  | _ => false

/-- The instruction run `n` times, as long as it completes. -/
def execTimes (i : Instr) : Nat → State → Option State
  | 0, s => some s
  | n + 1, s =>
    match exec i s with
    | .next t => execTimes i n t
    | .fault _ => none
    | .refused _ => none

/-- The number of steps of a repeating block move entered with `bc` (47_prefix_block.md R315). -/
def moveCount (bc : Word) : Nat := if bc = 0 then 65536 else bc.toNat

/-! ## The operand forms of an 8-bit operation (44_arith8.md R212) -/

/-- `(HL)`, `(IX+d)`, `(IY+d)`, `n` and `r`. -/
inductive Form8 where
  | mhl
  | mix (d : Byte)
  | miy (d : Byte)
  | imm (n : Byte)
  | reg (r : R8)
  deriving DecidableEq, Repr

/-- The second operand `x` (44_arith8.md R212). -/
def Form8.value (x : Form8) (c : Ctx) (s : State) : Byte :=
  match x with
  | .mhl => s.rdS8 c s.hl
  | .mix d => s.rdS8 c (s.ix + sext d)
  | .miy d => s.rdS8 c (s.iy + sext d)
  | .imm n => n
  | .reg r => s.main.get r

/-- The state after the operand is read: only an I/O read leaves a trace. -/
def Form8.after (x : Form8) (c : Ctx) (s : State) : State :=
  match x with
  | .mhl => s.afterRead c 1
  | .mix _ => s.afterRead c 1
  | .miy _ => s.afterRead c 1
  | .imm _ => s
  | .reg _ => s

/-- The bytes of the row. -/
def Form8.len : Form8 → Nat
  | .mhl => 1
  | .mix _ => 3
  | .miy _ => 3
  | .imm _ => 2
  | .reg _ => 1

/-- The row of `ADD` with this operand. -/
def Form8.add : Form8 → Instr
  | .mhl => .addMhl
  | .mix d => .addMix d
  | .miy d => .addMiy d
  | .imm n => .addN n
  | .reg r => .addR r

/-- The row of `ADC` with this operand. -/
def Form8.adc : Form8 → Instr
  | .mhl => .adcMhl
  | .mix d => .adcMix d
  | .miy d => .adcMiy d
  | .imm n => .adcN n
  | .reg r => .adcR r

/-- The row of `SUB` with this operand. -/
def Form8.sub : Form8 → Instr
  | .mhl => .subMhl
  | .mix d => .subMix d
  | .miy d => .subMiy d
  | .imm n => .subN n
  | .reg r => .subR r

/-- The row of `SBC` with this operand. -/
def Form8.sbc : Form8 → Instr
  | .mhl => .sbcMhl
  | .mix d => .sbcMix d
  | .miy d => .sbcMiy d
  | .imm n => .sbcN n
  | .reg r => .sbcR r

/-- The row of `AND` with this operand. -/
def Form8.conj : Form8 → Instr
  | .mhl => .andMhl
  | .mix d => .andMix d
  | .miy d => .andMiy d
  | .imm n => .andN n
  | .reg r => .andR r

/-- The row of `XOR` with this operand. -/
def Form8.xor : Form8 → Instr
  | .mhl => .xorMhl
  | .mix d => .xorMix d
  | .miy d => .xorMiy d
  | .imm n => .xorN n
  | .reg r => .xorR r

/-- The row of `OR` with this operand. -/
def Form8.disj : Form8 → Instr
  | .mhl => .orMhl
  | .mix d => .orMix d
  | .miy d => .orMiy d
  | .imm n => .orN n
  | .reg r => .orR r

/-- The row of `CP` with this operand. -/
def Form8.cp : Form8 → Instr
  | .mhl => .cpMhl
  | .mix d => .cpMix d
  | .miy d => .cpMiy d
  | .imm n => .cpN n
  | .reg r => .cpR r

/-! ## The memory operand of a read-modify-write row -/

/-- `(HL)`, `(IX+d)` and `(IY+d)`. -/
inductive FormM where
  | hl
  | ix (d : Byte)
  | iy (d : Byte)
  deriving DecidableEq, Repr

/-- The logical address of the operand (20_memory.md R45). -/
def FormM.addr (x : FormM) (s : State) : Word :=
  match x with
  | .hl => s.hl
  | .ix d => s.ix + sext d
  | .iy d => s.iy + sext d

/-- The bytes of an `INC` or `DEC` row with this operand. -/
def FormM.lenInc : FormM → Nat
  | .hl => 1
  | .ix _ => 3
  | .iy _ => 3

/-- The bytes of a bit, shift or rotate row with this operand. -/
def FormM.lenCB : FormM → Nat
  | .hl => 2
  | .ix _ => 4
  | .iy _ => 4

/-- The row of `INC` with this operand. -/
def FormM.inc : FormM → Instr
  | .hl => .incMhl
  | .ix d => .incMix d
  | .iy d => .incMiy d

/-- The row of `DEC` with this operand. -/
def FormM.dec : FormM → Instr
  | .hl => .decMhl
  | .ix d => .decMix d
  | .iy d => .decMiy d

/-- The row of `RL` with this operand. -/
def FormM.rl : FormM → Instr
  | .hl => .rlMhl
  | .ix d => .rlMix d
  | .iy d => .rlMiy d

/-- The row of `RLC` with this operand. -/
def FormM.rlc : FormM → Instr
  | .hl => .rlcMhl
  | .ix d => .rlcMix d
  | .iy d => .rlcMiy d

/-- The row of `RR` with this operand. -/
def FormM.rr : FormM → Instr
  | .hl => .rrMhl
  | .ix d => .rrMix d
  | .iy d => .rrMiy d

/-- The row of `RRC` with this operand. -/
def FormM.rrc : FormM → Instr
  | .hl => .rrcMhl
  | .ix d => .rrcMix d
  | .iy d => .rrcMiy d

/-- The row of `SLA` with this operand. -/
def FormM.sla : FormM → Instr
  | .hl => .slaMhl
  | .ix d => .slaMix d
  | .iy d => .slaMiy d

/-- The row of `SRA` with this operand. -/
def FormM.sra : FormM → Instr
  | .hl => .sraMhl
  | .ix d => .sraMix d
  | .iy d => .sraMiy d

/-- The row of `SRL` with this operand. -/
def FormM.srl : FormM → Instr
  | .hl => .srlMhl
  | .ix d => .srlMix d
  | .iy d => .srlMiy d

/-- The row of `BIT b` with this operand. -/
def FormM.bit (b : BitVec 3) : FormM → Instr
  | .hl => .bitMhl b
  | .ix d => .bitMix b d
  | .iy d => .bitMiy b d

/-- The row of `RES b` with this operand. -/
def FormM.res (b : BitVec 3) : FormM → Instr
  | .hl => .resMhl b
  | .ix d => .resMix b d
  | .iy d => .resMiy b d

/-- The row of `SET b` with this operand. -/
def FormM.set (b : BitVec 3) : FormM → Instr
  | .hl => .setMhl b
  | .ix d => .setMix b d
  | .iy d => .setMiy b d

/-- A shift or rotate with result `res` and bit shifted out `out`: its memory rows and its register row, with the row
`* * L *` (46_shift_rotate.md R282). -/
def ShiftsTo (p : Pfx) (s : State) (inMemory : FormM → Instr) (inRegister : R8 → Instr) (res : Byte → Byte)
    (out : Byte → Bool) : Prop :=
  (∀ x : FormM,
      let v := s.rdS8 p.ctx (x.addr s)
      RunsWithFlags p (inMemory x) s ((s.afterRead p.ctx 1).wrD8 p.ctx (x.addr s) (res v)) x.lenCB (res v).msb
        (decide (res v = 0)) (highNibble (res v)) (out v)) ∧
    ∀ r : R8,
      let v := s.main.get r
      RunsWithFlags p (inRegister r) s (s.updBank p.hasAlt fun k => k.set r (res v)) 2 (res v).msb
        (decide (res v = 0)) (highNibble (res v)) (out v)

end Machine

end Sys2Proof
end

