-- ==== Sys2Proof/Certificates/Slice0/Obligations.lean ====
section
/-!
DEFINITION. What is to be proved about the model. Each statement's docstring names the rule of the spec it follows;
`Runs p i s x n` and its companions (Sys2Proof/Claims.lean) say that `exec` answers a next state and which one.
-/
open Sys2Proof Sys2Proof.Machine

/-- Reset leaves the default values of RESET_STATE (70_reset_and_hazards.md R430, 60_exceptions.md R405). Model's choice: The values are the spec's default, taken from general knowledge (log 8). Rests on the spec's own choices: the I/O spaces as environments (log 6); all 8 bits of XPC count (log 24). -/
def Obligations.ResetLeavesTheDefaultValues : Prop :=
  State.reset.pc = 0 ∧ State.reset.xpc = 0 ∧ State.reset.ip = 0xFF ∧ State.reset.iir = 0 ∧ State.reset.eir = 0 ∧
    State.reset.inhibit = false ∧ State.reset.ioWrites = [] ∧ ∀ q, State.reset.accepts q = false

/-- Memory after reset has the canonical form (20_memory.md R40, 70_reset_and_hazards.md R430). Model's choice: The memory of the reset state has the canonical form of the model (log 10): addresses strictly rising and below 2^20. -/
def Obligations.ResetMemoryIsCanonical : Prop :=
  State.reset.Canonical

/-- Every step keeps the canonical form of memory (20_memory.md R40). Model's choice: The canonical form is the model's (log 10); the bound 2^20 is the size of physical memory. -/
def Obligations.StepKeepsMemoryCanonical : Prop :=
  ∀ s t : State, s.Canonical → step s = .next t → t.Canonical

/-- A step runs the instruction whose bytes stand in memory from PC on, and then the boundary after it (10_state.md R18, 20_memory.md R44, 30_encoding.md R69, 60_exceptions.md R404, 60_exceptions.md R405). Model's choice: That fetch uses the translation of data is the spec's decision D2 (log 5). The boundary is the spec's decisions D19 and D26 (log 7). To refuse is the spec's decision D15 (log 18). That the bytes wrap at 0xFFFF is the spec's decision D9 (log 19). -/
def Obligations.StepRunsTheDecodedInstruction : Prop :=
  ∀ s : State,
    let bytes := [s.mem8 s.pc, s.mem8 (s.pc + 1), s.mem8 (s.pc + 2), s.mem8 (s.pc + 3), s.mem8 (s.pc + 4),
      s.mem8 (s.pc + 5)]
    (∀ a : Word, s.mem8 a = s.physRead (s.phys a)) ∧
    (∀ (i : Instr) (rest : List Byte), decode bytes = .ok (i, rest) →
      ∃ t, exec i s = .next t ∧ step s = .next t.boundary) ∧
    ∀ e : DecodeError, decode bytes = .error e → step s = .refused (.undefinedOpcode e)

/-- Words written out from the spec's encodings decode to their instructions (30_encoding.md R63, 30_encoding.md R65, 30_encoding.md R67, 40_load_immediate_direct.md R100, 40_load_immediate_direct.md R103, 40_load_immediate_direct.md R109, 45_bit_incdec_fastA.md R255, 45_bit_incdec_fastA.md R256, 41_load_indexed.md R137, 42_move_exchange_stack.md R172, 48_control.md R330, 47_prefix_block.md R313). Rests on the spec's own choices: opcode bytes and lengths (log 1); which prefix sets there are (log 2); the operands j and xpc (log 28). -/
def Obligations.WrittenOutWordsDecode : Prop :=
  decode [0x3E, 0x7F] = .ok (.ldRN .a 0x7F, []) ∧
    decode [0xDD, 0x21, 0x34, 0x12] = .ok (.ldIXmn 0x1234, []) ∧
    decode [0xED, 0x73, 0x00, 0x40] = .ok (.ldMmnSS 0x4000 .sp, []) ∧
    decode [0xCB, 0x7E] = .ok (.bitMhl 7, []) ∧
    decode [0xDD, 0xCB, 0x01, 0x46] = .ok (.bitMix 0 1, []) ∧
    decode [0xFD, 0xF4, 0x00] = .ok (.ldMiyHL 0, []) ∧
    decode [0x76, 0x06, 0x01] = .ok (.altd (.ldRN .b 1), []) ∧
    decode [0xD3, 0x32, 0x11, 0x00] = .ok (.ioi (.ldMmnA 0x0011), []) ∧
    decode [0x76, 0xE3] = .ok (.exDEaHLa, []) ∧
    decode [0xCF, 0x00, 0xE0, 0x7A] = .ok (.lcall 0x7A 0xE000, [])

/-- The undefined byte sequences of R69 are refused, each of them and behind every prefix set (30_encoding.md R66, 30_encoding.md R67, 30_encoding.md R69). Model's choice: To refuse is the spec's decision D15 (log 18). Which prefix sets are defined is the spec's decision D10 (log 2). Rests on the spec's own choices: opcode bytes and lengths (log 1). -/
def Obligations.UndefinedBytesAreRefused : Prop :=
  ∀ (p : Pfx) (rest : List Byte) (k : BitVec 3) (d op : Byte),
    decode (p.bytes ++ 0xCB :: (0b00110#5 ++ k) :: rest) = .error (.undefinedCB (0b00110#5 ++ k)) ∧
    (op ∉ opcodesED → decode (p.bytes ++ 0xED :: op :: rest) = .error (.undefinedED op)) ∧
    (op ∉ opcodesIndex → decode (p.bytes ++ 0xDD :: op :: rest) = .error (.undefinedDD op) ∧
      decode (p.bytes ++ 0xFD :: op :: rest) = .error (.undefinedFD op)) ∧
    (op.extractLsb' 0 3 ≠ 0b110 ∨ op = 0x36 →
      decode (p.bytes ++ 0xDD :: 0xCB :: d :: op :: rest) = .error (.undefinedDDCB op) ∧
      decode (p.bytes ++ 0xFD :: 0xCB :: d :: op :: rest) = .error (.undefinedFDCB op)) ∧
    (op = 0x76 ∧ p.hasAlt = true ∨ (op = 0xD3 ∨ op = 0xDB) ∧ p.io ≠ none →
      decode (p.bytes ++ op :: rest) = .error (.prefixRun op))

/-- Decoding the bytes of a well-formed instruction gives that instruction back (30_encoding.md R60, 30_encoding.md R61, 30_encoding.md R62, 30_encoding.md R63, 30_encoding.md R66, 30_encoding.md R67). Rests on the spec's own choices: opcode bytes and lengths (log 1); which prefix sets there are (log 2). -/
def Obligations.DecodeOfEncodeIsTheInstruction : Prop :=
  ∀ (i : Instr) (rest : List Byte), WellFormed i → decode (encode i ++ rest) = .ok (i, rest)

/-- What the decoder accepts is exactly the encoding of what it answers (30_encoding.md R66, 30_encoding.md R67, 30_encoding.md R68, 30_encoding.md R69). Rests on the spec's own choices: opcode bytes and lengths (log 1); which prefix sets there are (log 2). -/
def Obligations.DecodedBytesAreTheEncoding : Prop :=
  ∀ (bs : List Byte) (i : Instr) (rest : List Byte), decode bs = .ok (i, rest) →
    WellFormed i ∧ bs = encode i ++ rest

/-- Every instruction runs to completion in every state and no step faults (60_exceptions.md R400, 60_exceptions.md R401, 60_exceptions.md R405, 20_memory.md R47). Model's choice: A step uses up one offer of IRQ and keeps the choice of Translate; both fields are the model's own (log 3, log 7). Rests on the spec's own choices: all 8 bits of XPC count (log 24). -/
def Obligations.EveryInstructionCompletes : Prop :=
  (∀ (i : Instr) (s : State), ∃ t, exec i s = .next t ∧ t.irq = s.irq ∧ t.translation = s.translation) ∧
    (∀ (s : State) (f : Fault), step s ≠ .fault f) ∧
    (∀ (v : Rst) (s t : State), exec (.rst v) s = .next t → t.ip = s.ip ∧ t.xpc = s.xpc) ∧
    ∀ s t : State, step s = .next t → t.irq = s.irq.tail ∧ t.translation = s.translation

/-- Which flag register and which flags an instruction may change (00_scope.md R7, 10_state.md R15, 10_state.md R16). Model's choice: F' under ALTD is the spec's decision D6 (log 16). Rests on the spec's own choices: which prefix sets there are (log 2); what ALTD does to flags and to SP (log 16), that a prefix without a letter does nothing (log 17); the places of the flags in F and that the other four bits keep their value (log 11, log 12). -/
def Obligations.FlagsChangeOnlyAsTheTableSays : Prop :=
  ∀ (p : Pfx) (i : Instr) (s t : State), i.isBase = true → movesF i = false → exec (p.wrap i) s = .next t →
    let alt := p.hasAlt && (decide (altdCol i = .f) || decide (altdCol i = .fr))
    (t.bank (!alt)).f = (s.bank (!alt)).f ∧
    ((flagCells i).s = .keep → flagS (t.bank alt).f = flagS (s.bank alt).f) ∧
    ((flagCells i).z = .keep → flagZ (t.bank alt).f = flagZ (s.bank alt).f) ∧
    ((flagCells i).lv = .keep → flagLV (t.bank alt).f = flagLV (s.bank alt).f) ∧
    ((flagCells i).c = .keep → flagC (t.bank alt).f = flagC (s.bank alt).f) ∧
    (t.bank alt).f.getLsbD 1 = (s.bank alt).f.getLsbD 1 ∧ (t.bank alt).f.getLsbD 3 = (s.bank alt).f.getLsbD 3 ∧
    (t.bank alt).f.getLsbD 4 = (s.bank alt).f.getLsbD 4 ∧ (t.bank alt).f.getLsbD 5 = (s.bank alt).f.getLsbD 5

/-- An instruction changes no register but those its Operation column names (10_state.md R10, 10_state.md R13, 10_state.md R14, 00_scope.md R6, 00_scope.md R7). Rests on the spec's own choices: which prefix sets there are (log 2); what ALTD does to flags and to SP (log 16), that a prefix without a letter does nothing (log 17). -/
def Obligations.RegistersOutsideTheDestinationsKeepTheirValue : Prop :=
  ∀ (p : Pfx) (i : Instr) (s t : State) (r : Reg), i.isBase = true → exec (p.wrap i) s = .next t →
    r ∉ destRegs p.hasAlt i → t.reg r = s.reg r

/-- An instruction changes no byte of memory but those it stores to (20_memory.md R41, 20_memory.md R43, 20_memory.md R45, 20_memory.md R46, 20_memory.md R48). Rests on the spec's own choices: which prefix sets there are (log 2); what ALTD does to flags and to SP (log 16), that a prefix without a letter does nothing (log 17). -/
def Obligations.MemoryOutsideTheStoredBytesKeepsItsValue : Prop :=
  ∀ (p : Pfx) (i : Instr) (s t : State) (q : Phys), i.isBase = true → exec (p.wrap i) s = .next t →
    q ∉ storedAt i p.ctx s → t.physRead q = s.physRead q

/-- Only an I/O prefix on a row with an I letter reaches an I/O space (00_scope.md R7, 20_memory.md R48, 30_encoding.md R66). Rests on the spec's own choices: which prefix sets there are (log 2); what ALTD does to flags and to SP (log 16), that a prefix without a letter does nothing (log 17); the I/O spaces as environments (log 6). -/
def Obligations.IoSpacesAreReachedOnlyThroughAPrefix : Prop :=
  ∀ (p : Pfx) (i : Instr) (s t : State), i.isBase = true → exec (p.wrap i) s = .next t →
    (p.io = none ∨ ioCol i = .empty → t.ioWrites = s.ioWrites ∧ t.ioReads = s.ioReads) ∧
    (∃ ws, t.ioWrites = s.ioWrites ++ ws ∧ ∀ w ∈ ws, p.io = some w.space) ∧
    (ioCol i = .source → t.ioWrites = s.ioWrites) ∧
    (p.io ≠ none → ioCol i = .destination ∨ ioCol i = .both → t.mem = s.mem) ∧
    (ioCol i = .destination → ioReadModifyWrite i = false → t.ioReads = s.ioReads)

/-- inhibit is set by exactly the privileged rows and holds off interrupts at the next boundary only (60_exceptions.md R406, 60_exceptions.md R410, 10_state.md R25). Model's choice: That LD A,XPC is not among them is the spec's decision D21 (log 23). While inhibit is 1 a boundary accepts nothing; that it uses up what IRQ offers there is the model's form of IRQ (log 7). Rests on the spec's own choices: which prefix sets there are (log 2); what ALTD does to flags and to SP (log 16), that a prefix without a letter does nothing (log 17). -/
def Obligations.PrivilegeHoldsOffOneBoundary : Prop :=
  (∀ (p : Pfx) (i : Instr) (s t : State), i.isBase = true → exec (p.wrap i) s = .next t →
      (t.inhibit = true ↔
        i = .ldSPHL ∨ i = .ldSPIX ∨ i = .ldSPIY ∨ i = .ipset0 ∨ i = .ipset1 ∨ i = .ipset2 ∨ i = .ipset3 ∨
        i = .ipres ∨ i = .popIP ∨ i = .reti ∨ i = .ldXPCA ∨ ∃ b, i = .bitMhl b)) ∧
    (∀ s : State, s.inhibit = true → s.boundary = { s with irq := s.irq.tail }) ∧
    ∀ (i : Instr) (s : State) (b : Bool), exec i { s with inhibit := b } = exec i s

/-- An instruction that does not assign PC moves it past its bytes and prefixes (10_state.md R18, 30_encoding.md R68, 00_scope.md R6). Rests on the spec's own choices: opcode bytes and lengths (log 1); which prefix sets there are (log 2); what ALTD does to flags and to SP (log 16), that a prefix without a letter does nothing (log 17); addresses and PC modulo 65536 (log 19). -/
def Obligations.PcMovesPastTheInstruction : Prop :=
  ∀ (p : Pfx) (i : Instr) (s t : State), i.isBase = true → isControl i = false → exec (p.wrap i) s = .next t →
    t.pc = s.pc + BitVec.ofNat 16 (p.bytes.length + instrLength i) ∧
    (encode (p.wrap i)).length = p.bytes.length + instrLength i

/-- A prefix before a row whose A column, or I column, is empty has no effect beyond its byte (30_encoding.md R66, 00_scope.md R7, 20_memory.md R48, 47_prefix_block.md R311, 47_prefix_block.md R312, 47_prefix_block.md R313). Model's choice: That the prefix is ignored is the spec's decision D11 (log 17). Rests on the spec's own choices: opcode bytes and lengths (log 1); which prefix sets there are (log 2); what ALTD does to flags and to SP (log 16), that a prefix without a letter does nothing (log 17); addresses and PC modulo 65536 (log 19). -/
def Obligations.PrefixWithoutALetterHasNoEffect : Prop :=
  ∀ (p : Pfx) (i : Instr) (s : State), i.isBase = true →
    (altdCol i = .empty → isRepeating i = false → p.hasAlt = true →
      exec (p.wrap i) s = exec (p.noAlt.wrap i) { s with pc := s.pc + 1 }) ∧
    (ioCol i = .empty → p.io ≠ none → exec (p.wrap i) s = exec (p.noIo.wrap i) { s with pc := s.pc + 1 })

/-- ALTD, IOI and IOE complete with the instruction they stand before (47_prefix_block.md R311, 47_prefix_block.md R312, 47_prefix_block.md R313, 40_load_immediate_direct.md R103, 40_load_immediate_direct.md R104, 40_load_immediate_direct.md R105). Rests on the spec's own choices: opcode bytes and lengths (log 1); the I/O spaces as environments (log 6); addresses and PC modulo 65536 (log 19). -/
def Obligations.PrefixRowsActOnTheInstructionBehindThem : Prop :=
  ∀ (s : State) (r : R8) (n : Byte) (mn : Word),
    exec (.altd (.ldRN r n)) s = .next { s with alt := s.alt.set r n, pc := s.pc + 3, inhibit := false } ∧
    exec (.ioi (.ldMmnA mn)) s = .next
      { s with ioWrites := s.ioWrites ++ [⟨.int, mn, s.main.a⟩], pc := s.pc + 4, inhibit := false } ∧
    exec (.ioe (.ldAMmn mn)) s = .next
      { s with
        main := s.main.set .a (Config.ioRead .ext mn s.ioWrites s.ioReads)
        ioReads := s.ioReads + 1
        pc := s.pc + 4
        inhibit := false } ∧
    exec (.altd (.ioi (.ldAMmn mn))) s = .next
      { s with
        alt := s.alt.set .a (Config.ioRead .int mn s.ioWrites s.ioReads)
        ioReads := s.ioReads + 1
        pc := s.pc + 5
        inhibit := false } ∧
    exec (.ioi (.altd (.ldAMmn mn))) s = exec (.altd (.ioi (.ldAMmn mn))) s

/-- What a boundary does with what IRQ offers, and the entry sequence (60_exceptions.md R402, 60_exceptions.md R403, 60_exceptions.md R405). Model's choice: The sequence and the comparison are the spec's decision D19 (log 7). Rests on the spec's own choices: addresses and PC modulo 65536 (log 19). -/
def Obligations.BoundaryAcceptsHigherPriorityOnly : Prop :=
  ∀ (s : State) (q : IrqRequest) (rest : List (Option IrqRequest)),
    (s.irq = some q :: rest → s.inhibit = false → s.currentPriority < q.priority.bits →
      s.boundary =
        { (s.wrMem8 (s.sp - 1) (hiByte s.pc)).wrMem8 (s.sp - 2) (loByte s.pc) with
          sp := s.sp - 2
          ip := s.ip.extractLsb' 0 6 ++ q.priority.bits
          pc := q.entry
          inhibit := false
          irq := rest }) ∧
    (s.irq = some q :: rest → s.inhibit = true ∨ ¬ s.currentPriority < q.priority.bits →
      s.boundary = { s with irq := rest }) ∧
    (s.currentPriority = 3 → s.boundary = { s with irq := s.irq.tail }) ∧
    (s.irq = none :: rest → s.boundary = { s with irq := rest }) ∧
    (s.irq = [] → s.boundary = s)

/-- IPRES then RET undo an interrupt entry (60_exceptions.md R403, 60_exceptions.md R408, 49_misc_privileged.md R342, 48_control.md R333). Model's choice: The entry sequence is the spec's decision D19 (log 7). Rests on the spec's own choices: addresses and PC modulo 65536 (log 19); all 8 bits of XPC count (log 24). -/
def Obligations.IpresAndRetReturnFromAnInterrupt : Prop :=
  ∀ (s : State) (q : IrqRequest), s.phys (s.sp - 1) ≠ s.phys (s.sp - 2) →
    ∃ t u, exec .ipres (s.enterInterrupt q) = .next t ∧ t.inhibit = true ∧ exec .ret t = .next u ∧
      u.pc = s.pc ∧ u.sp = s.sp ∧ u.currentPriority = s.currentPriority ∧
      u.ip.extractLsb' 0 6 = s.ip.extractLsb' 0 6 ∧ u.main = s.main ∧ u.alt = s.alt ∧ u.ix = s.ix ∧ u.iy = s.iy ∧
      u.xpc = s.xpc

/-- BC, DE, HL and AF are their two halves, high byte first, and the four selects name pairs (10_state.md R12). -/
def Obligations.RegisterPairsAreTheirHalves : Prop :=
  ∀ (k : Bank) (v : Word) (x : Byte) (s : State),
    k.bc = k.b ++ k.c ∧ k.de = k.d ++ k.e ∧ k.hl = k.h ++ k.l ∧ k.af = k.a ++ k.f ∧
    (k.setBC v = { k with b := hiByte v, c := loByte v } ∧ (k.setBC v).bc = v) ∧
    (k.setDE v = { k with d := hiByte v, e := loByte v } ∧ (k.setDE v).de = v) ∧
    (k.setHL v = { k with h := hiByte v, l := loByte v } ∧ (k.setHL v).hl = v) ∧
    (k.setAF v = { k with a := hiByte v, f := loByte v } ∧ (k.setAF v).af = v) ∧
    ((k.set .b x).bc = x ++ k.c ∧ (k.set .c x).bc = k.b ++ x ∧ (k.set .d x).de = x ++ k.e ∧
      (k.set .e x).de = k.d ++ x ∧ (k.set .h x).hl = x ++ k.l ∧ (k.set .l x).hl = k.h ++ x) ∧
    (s.getSS .bc = s.main.bc ∧ s.getSS .de = s.main.de ∧ s.getSS .hl = s.main.hl ∧ s.getSS .sp = s.sp) ∧
    (s.getXX .bc = s.main.bc ∧ s.getXX .de = s.main.de ∧ s.getXX .ix = s.ix ∧ s.getXX .sp = s.sp) ∧
    (s.getYY .bc = s.main.bc ∧ s.getYY .de = s.main.de ∧ s.getYY .iy = s.iy ∧ s.getYY .sp = s.sp) ∧
    (s.setZZ false .bc v = { s with main := s.main.setBC v } ∧ s.setZZ false .de v = { s with main := s.main.setDE v } ∧
      s.setZZ false .hl v = { s with main := s.main.setHL v } ∧ s.setZZ false .af v = { s with main := s.main.setAF v }) ∧
    ∃ t u, exec (.ldMmnHL v) s = .next t ∧ (s.phys v ≠ s.phys (v + 1) → t.mem8 v = s.main.l ∧ t.mem8 (v + 1) = s.main.h) ∧
      exec (.pushZZ .hl) s = .next u ∧
      (s.phys (s.sp - 1) ≠ s.phys (s.sp - 2) → u.mem8 (s.sp - 1) = s.main.h ∧ u.mem8 (s.sp - 2) = s.main.l)

/-- WrD writes memory, or records one event in the selected I/O space (20_memory.md R41, 20_memory.md R48, 00_scope.md R6). Model's choice: That an I/O write is an event is the spec's decision D3 (log 6). -/
def Obligations.OperandWritesGoToMemoryOrToTheIoSpace : Prop :=
  ∀ (s : State) (c : Ctx) (a : Word) (v : Byte) (sp : IoSpace),
    (c.io = none → (s.wrD8 c a v).mem8 a = v ∧ (s.wrD8 c a v).ioWrites = s.ioWrites ∧
      ∀ q, q ≠ s.phys a → (s.wrD8 c a v).physRead q = s.physRead q) ∧
    (c.io = some sp → (s.wrD8 c a v).mem = s.mem ∧ (s.wrD8 c a v).ioWrites = s.ioWrites ++ [⟨sp, a, v⟩])

/-- A 16-bit store puts the low byte at the lower address, wraps at 0xFFFF, and is read back (20_memory.md R41, 40_load_immediate_direct.md R106, 40_load_immediate_direct.md R111). Model's choice: The wrap at 0xFFFF is the spec's decision D9 (log 19). -/
def Obligations.SixteenBitDataIsLittleEndian : Prop :=
  ∀ (s : State) (mn : Word), s.phys mn ≠ s.phys (mn + 1) →
    ∃ t u v, exec (.ldMmnHL mn) s = .next t ∧ t.mem8 mn = s.main.l ∧ t.mem8 (mn + 1) = s.main.h ∧
      exec (.ldIXMmn mn) t = .next u ∧ u.ix = s.hl ∧ exec (.ldAMmn mn) t = .next v ∧ v.main.a = s.main.l

/-- LD IX,mn, LD IY,mn, LD dd,mn and LD r,n load the constant (40_load_immediate_direct.md R100, 40_load_immediate_direct.md R101, 40_load_immediate_direct.md R102, 40_load_immediate_direct.md R103). Rests on the spec's own choices: opcode bytes and lengths (log 1); which prefix sets there are (log 2); what ALTD does to flags and to SP (log 16), that a prefix without a letter does nothing (log 17); addresses and PC modulo 65536 (log 19). -/
def Obligations.LoadConstants : Prop :=
  ∀ (p : Pfx) (s : State) (mn : Word) (r : R8) (n : Byte),
    Runs p (.ldIXmn mn) s { s with ix := mn } 4 ∧
    Runs p (.ldIYmn mn) s { s with iy := mn } 4 ∧
    Runs p (.ldDDmn .bc mn) s (s.updBank p.hasAlt fun k => { k with b := hiByte mn, c := loByte mn }) 3 ∧
    Runs p (.ldDDmn .de mn) s (s.updBank p.hasAlt fun k => { k with d := hiByte mn, e := loByte mn }) 3 ∧
    Runs p (.ldDDmn .hl mn) s (s.updBank p.hasAlt fun k => { k with h := hiByte mn, l := loByte mn }) 3 ∧
    Runs p (.ldDDmn .sp mn) s { s with sp := mn } 3 ∧
    Runs p (.ldRN r n) s (s.updBank p.hasAlt fun k => k.set r n) 2

/-- The 8-bit and 16-bit loads whose source an I/O prefix moves (40_load_immediate_direct.md R105, 40_load_immediate_direct.md R110, 40_load_immediate_direct.md R111, 40_load_immediate_direct.md R112, 40_load_immediate_direct.md R113, 41_load_indexed.md R114, 41_load_indexed.md R115, 41_load_indexed.md R120, 41_load_indexed.md R123, 41_load_indexed.md R126, 41_load_indexed.md R128, 41_load_indexed.md R136). Model's choice: That an I/O read is a free value of the environment is the spec's decision D3 (log 6). Rests on the spec's own choices: opcode bytes and lengths (log 1); which prefix sets there are (log 2); what ALTD does to flags and to SP (log 16), that a prefix without a letter does nothing (log 17); addresses and PC modulo 65536 (log 19). -/
def Obligations.LoadsFromAMemoryOperand : Prop :=
  ∀ (p : Pfx) (s : State) (mn : Word) (r : R8) (d : Byte),
    (p.io = none → ∀ a : Word, s.rdS8 p.ctx a = s.physRead (s.phys a) ∧
      s.rdS16 p.ctx a = s.physRead (s.phys (a + 1)) ++ s.physRead (s.phys a) ∧ ∀ n, s.afterRead p.ctx n = s) ∧
    (∀ sp, p.io = some sp → ∀ a : Word, s.rdS8 p.ctx a = Config.ioRead sp a s.ioWrites s.ioReads ∧
      s.rdS16 p.ctx a = Config.ioRead sp (a + 1) s.ioWrites (s.ioReads + 1) ++ Config.ioRead sp a s.ioWrites s.ioReads ∧
      ∀ n, s.afterRead p.ctx n = { s with ioReads := s.ioReads + n }) ∧
    Runs p (.ldAMmn mn) s ((s.afterRead p.ctx 1).updBank p.hasAlt fun k => k.set .a (s.rdS8 p.ctx mn)) 3 ∧
    Runs p .ldAMbc s ((s.afterRead p.ctx 1).updBank p.hasAlt fun k => k.set .a (s.rdS8 p.ctx s.bc)) 1 ∧
    Runs p .ldAMde s ((s.afterRead p.ctx 1).updBank p.hasAlt fun k => k.set .a (s.rdS8 p.ctx s.de)) 1 ∧
    Runs p (.ldRMhl r) s ((s.afterRead p.ctx 1).updBank p.hasAlt fun k => k.set r (s.rdS8 p.ctx s.hl)) 1 ∧
    Runs p (.ldRMix r d) s ((s.afterRead p.ctx 1).updBank p.hasAlt fun k => k.set r (s.rdS8 p.ctx (s.ix + sext d))) 3 ∧
    Runs p (.ldRMiy r d) s ((s.afterRead p.ctx 1).updBank p.hasAlt fun k => k.set r (s.rdS8 p.ctx (s.iy + sext d))) 3 ∧
    Runs p (.ldHLMmn mn) s ((s.afterRead p.ctx 2).updBank p.hasAlt fun k => k.setHL (s.rdS16 p.ctx mn)) 3 ∧
    Runs p (.ldDDMmn .bc mn) s ((s.afterRead p.ctx 2).updBank p.hasAlt fun k => k.setBC (s.rdS16 p.ctx mn)) 4 ∧
    Runs p (.ldDDMmn .de mn) s ((s.afterRead p.ctx 2).updBank p.hasAlt fun k => k.setDE (s.rdS16 p.ctx mn)) 4 ∧
    Runs p (.ldDDMmn .hl mn) s ((s.afterRead p.ctx 2).updBank p.hasAlt fun k => k.setHL (s.rdS16 p.ctx mn)) 4 ∧
    Runs p (.ldHLMhld d) s ((s.afterRead p.ctx 2).updBank p.hasAlt fun k => k.setHL (s.rdS16 p.ctx (s.hl + sext d))) 3 ∧
    Runs p (.ldHLMix d) s ((s.afterRead p.ctx 2).updBank p.hasAlt fun k => k.setHL (s.rdS16 p.ctx (s.ix + sext d))) 2 ∧
    Runs p (.ldHLMiy d) s ((s.afterRead p.ctx 2).updBank p.hasAlt fun k => k.setHL (s.rdS16 p.ctx (s.iy + sext d))) 3 ∧
    Runs p (.ldDDMmn .sp mn) s { s.afterRead p.ctx 2 with sp := s.rdS16 p.ctx mn } 4 ∧
    Runs p (.ldIXMmn mn) s { s.afterRead p.ctx 2 with ix := s.rdS16 p.ctx mn } 4 ∧
    Runs p (.ldIYMmn mn) s { s.afterRead p.ctx 2 with iy := s.rdS16 p.ctx mn } 4

/-- The 8-bit stores whose destination an I/O prefix moves (40_load_immediate_direct.md R104, 41_load_indexed.md R116, 41_load_indexed.md R117, 41_load_indexed.md R118, 41_load_indexed.md R119, 41_load_indexed.md R121, 41_load_indexed.md R122, 41_load_indexed.md R124, 41_load_indexed.md R125). Rests on the spec's own choices: opcode bytes and lengths (log 1); which prefix sets there are (log 2); what ALTD does to flags and to SP (log 16), that a prefix without a letter does nothing (log 17); the I/O spaces as environments (log 6); addresses and PC modulo 65536 (log 19). -/
def Obligations.StoresOfOneByte : Prop :=
  ∀ (p : Pfx) (s : State) (mn : Word) (r : R8) (d n : Byte),
    Runs p (.ldMmnA mn) s (s.wrD8 p.ctx mn s.main.a) 3 ∧
    Runs p .ldMbcA s (s.wrD8 p.ctx s.bc s.main.a) 1 ∧
    Runs p .ldMdeA s (s.wrD8 p.ctx s.de s.main.a) 1 ∧
    Runs p (.ldMhlN n) s (s.wrD8 p.ctx s.hl n) 2 ∧
    Runs p (.ldMhlR r) s (s.wrD8 p.ctx s.hl (s.main.get r)) 1 ∧
    Runs p (.ldMixN d n) s (s.wrD8 p.ctx (s.ix + sext d) n) 4 ∧
    Runs p (.ldMixR d r) s (s.wrD8 p.ctx (s.ix + sext d) (s.main.get r)) 3 ∧
    Runs p (.ldMiyN d n) s (s.wrD8 p.ctx (s.iy + sext d) n) 4 ∧
    Runs p (.ldMiyR d r) s (s.wrD8 p.ctx (s.iy + sext d) (s.main.get r)) 3

/-- The 16-bit stores whose destination an I/O prefix moves (40_load_immediate_direct.md R106, 40_load_immediate_direct.md R107, 40_load_immediate_direct.md R108, 40_load_immediate_direct.md R109, 41_load_indexed.md R127, 41_load_indexed.md R135, 41_load_indexed.md R137, 20_memory.md R41, 20_memory.md R48). Rests on the spec's own choices: opcode bytes and lengths (log 1); which prefix sets there are (log 2); what ALTD does to flags and to SP (log 16), that a prefix without a letter does nothing (log 17); the I/O spaces as environments (log 6); addresses and PC modulo 65536 (log 19). -/
def Obligations.StoresOfAWord : Prop :=
  ∀ (p : Pfx) (s : State) (mn : Word) (d : Byte) (ss : SS),
    Runs p (.ldMmnHL mn) s ((s.wrD8 p.ctx mn (loByte s.hl)).wrD8 p.ctx (mn + 1) (hiByte s.hl)) 3 ∧
    Runs p (.ldMmnIX mn) s ((s.wrD8 p.ctx mn (loByte s.ix)).wrD8 p.ctx (mn + 1) (hiByte s.ix)) 4 ∧
    Runs p (.ldMmnIY mn) s ((s.wrD8 p.ctx mn (loByte s.iy)).wrD8 p.ctx (mn + 1) (hiByte s.iy)) 4 ∧
    Runs p (.ldMmnSS mn ss) s ((s.wrD8 p.ctx mn (loByte (s.getSS ss))).wrD8 p.ctx (mn + 1) (hiByte (s.getSS ss))) 4 ∧
    Runs p (.ldMhldHL d) s ((s.wrD8 p.ctx (s.hl + sext d) (loByte s.hl)).wrD8 p.ctx ((s.hl + sext d) + 1) (hiByte s.hl)) 3 ∧
    Runs p (.ldMixHL d) s ((s.wrD8 p.ctx (s.ix + sext d) (loByte s.hl)).wrD8 p.ctx ((s.ix + sext d) + 1) (hiByte s.hl)) 2 ∧
    Runs p (.ldMiyHL d) s ((s.wrD8 p.ctx (s.iy + sext d) (loByte s.hl)).wrD8 p.ctx ((s.iy + sext d) + 1) (hiByte s.hl)) 3

/-- The (SP+n) loads and stores use an unsigned offset and always memory (41_load_indexed.md R129, 41_load_indexed.md R130, 41_load_indexed.md R131, 41_load_indexed.md R132, 41_load_indexed.md R133, 41_load_indexed.md R134, 20_memory.md R45). Rests on the spec's own choices: opcode bytes and lengths (log 1); which prefix sets there are (log 2); what ALTD does to flags and to SP (log 16), that a prefix without a letter does nothing (log 17); addresses and PC modulo 65536 (log 19). -/
def Obligations.StackRelativeLoadsAndStores : Prop :=
  ∀ (p : Pfx) (s : State) (n : Byte),
    Runs p (.ldMspHL n) s ((s.wrMem8 (s.sp + zext n) (loByte s.hl)).wrMem8 (s.sp + zext n + 1) (hiByte s.hl)) 2 ∧
    Runs p (.ldMspIX n) s ((s.wrMem8 (s.sp + zext n) (loByte s.ix)).wrMem8 (s.sp + zext n + 1) (hiByte s.ix)) 3 ∧
    Runs p (.ldMspIY n) s ((s.wrMem8 (s.sp + zext n) (loByte s.iy)).wrMem8 (s.sp + zext n + 1) (hiByte s.iy)) 3 ∧
    Runs p (.ldHLMsp n) s (s.updBank p.hasAlt fun k => k.setHL (mkWord (s.mem8 (s.sp + zext n + 1)) (s.mem8 (s.sp + zext n)))) 2 ∧
    Runs p (.ldIXMsp n) s { s with ix := mkWord (s.mem8 (s.sp + zext n + 1)) (s.mem8 (s.sp + zext n)) } 3 ∧
    Runs p (.ldIYMsp n) s { s with iy := mkWord (s.mem8 (s.sp + zext n + 1)) (s.mem8 (s.sp + zext n)) } 3

/-- The twelve LDP rows use the physical address {A[3:0], x}, and the second byte wraps inside its page (20_memory.md R46, 41_load_indexed.md R139, 41_load_indexed.md R140, 41_load_indexed.md R141, 41_load_indexed.md R142, 41_load_indexed.md R145, 41_load_indexed.md R147, 41_load_indexed.md R148, 41_load_indexed.md R149, 41_load_indexed.md R150, 41_load_indexed.md R143, 41_load_indexed.md R144). Rests on the spec's own choices: opcode bytes and lengths (log 1); which prefix sets there are (log 2); what ALTD does to flags and to SP (log 16), that a prefix without a letter does nothing (log 17); addresses and PC modulo 65536 (log 19). -/
def Obligations.LdpUsesAPhysicalAddressInOnePage : Prop :=
  ∀ (p : Pfx) (s : State) (mn : Word),
    let at0 := fun x : Word => (s.main.a.extractLsb' 0 4 ++ x : Phys)
    let get := fun x : Word => mkWord (s.physRead (at0 (x + 1))) (s.physRead (at0 x))
    let put := fun x v : Word => (s.physWrite (at0 x) (loByte v)).physWrite (at0 (x + 1)) (hiByte v)
    Runs p .ldpHLMhl s { s with main := s.main.setHL (get s.hl) } 2 ∧
    Runs p .ldpHLMix s { s with main := s.main.setHL (get s.ix) } 2 ∧
    Runs p .ldpHLMiy s { s with main := s.main.setHL (get s.iy) } 2 ∧
    Runs p (.ldpHLMmn mn) s { s with main := s.main.setHL (get mn) } 4 ∧
    Runs p (.ldpIXMmn mn) s { s with ix := get mn } 4 ∧
    Runs p (.ldpIYMmn mn) s { s with iy := get mn } 4 ∧
    Runs p .ldpMhlHL s (put s.hl s.hl) 2 ∧
    Runs p .ldpMixHL s (put s.ix s.hl) 2 ∧
    Runs p .ldpMiyHL s (put s.iy s.hl) 2 ∧
    Runs p (.ldpMmnHL mn) s (put mn s.hl) 4 ∧
    Runs p (.ldpMmnIX mn) s (put mn s.ix) 4 ∧
    Runs p (.ldpMmnIY mn) s (put mn s.iy) 4 ∧
    (∀ x v : Word, (put x v).physRead (at0 x) = loByte v ∧ (put x v).physRead (at0 (x + 1)) = hiByte v) ∧
    (∀ x : Word, (at0 (x + 1)).extractLsb' 16 4 = (at0 x).extractLsb' 16 4)

/-- LD r,g, the IX and IY moves, LD A,XPC and the moves of A with IIR and EIR move the value (42_move_exchange_stack.md R151, 42_move_exchange_stack.md R152, 42_move_exchange_stack.md R153, 42_move_exchange_stack.md R154, 42_move_exchange_stack.md R156, 42_move_exchange_stack.md R158, 42_move_exchange_stack.md R159, 42_move_exchange_stack.md R160, 42_move_exchange_stack.md R161, 42_move_exchange_stack.md R165, 42_move_exchange_stack.md R166). Rests on the spec's own choices: opcode bytes and lengths (log 1); which prefix sets there are (log 2); what ALTD does to flags and to SP (log 16), that a prefix without a letter does nothing (log 17); addresses and PC modulo 65536 (log 19); the places of the flags in F and that the other four bits keep their value (log 11, log 12); LD A,XPC is not privileged (log 23); all 8 bits of XPC count (log 24). -/
def Obligations.RegisterMoves : Prop :=
  ∀ (p : Pfx) (s : State) (r g : R8),
    Runs p (.ldRG r g) s (s.updBank p.hasAlt fun k => k.set r (s.main.get g)) 1 ∧
    Runs p .ldAXPC s (s.updBank p.hasAlt fun k => { k with a := s.xpc }) 2 ∧
    Runs p .ldIIRA s { s with iir := s.main.a } 2 ∧
    RunsWithFlags p .ldAIIR s (s.updBank p.hasAlt fun k => { k with a := s.iir }) 2 s.iir.msb (decide (s.iir = 0))
      (s.oldLV p) (s.oldC p) ∧
    RunsWithFlags p .ldAEIR s (s.updBank p.hasAlt fun k => { k with a := s.eir }) 2 s.eir.msb (decide (s.eir = 0))
      (s.oldLV p) (s.oldC p) ∧
    Runs p .ldHLIX s (s.updBank p.hasAlt fun k => k.setHL s.ix) 2 ∧
    Runs p .ldHLIY s (s.updBank p.hasAlt fun k => k.setHL s.iy) 2 ∧
    Runs p .ldIXHL s { s with ix := s.hl } 2 ∧
    Runs p .ldIYHL s { s with iy := s.hl } 2 ∧
    Runs p (.ldDDaBC .bc) s { s with alt := s.alt.setBC s.bc } 2 ∧
    Runs p (.ldDDaBC .de) s { s with alt := s.alt.setDE s.bc } 2 ∧
    Runs p (.ldDDaBC .hl) s { s with alt := s.alt.setHL s.bc } 2 ∧
    Runs p (.ldDDaDE .bc) s { s with alt := s.alt.setBC s.de } 2 ∧
    Runs p (.ldDDaDE .de) s { s with alt := s.alt.setDE s.de } 2 ∧
    Runs p (.ldDDaDE .hl) s { s with alt := s.alt.setHL s.de } 2

/-- LD EIR,A writes EIR; LD A,EIR reads it and sets S and Z (10_state.md R23). -/
def Obligations.EirMovesToAndFromA : Prop :=
  ∀ s : State,
    (∃ pc, exec .ldEIRA s = .next { s with eir := s.main.a, pc := pc, inhibit := false }) ∧
    (∃ f pc, FlagsAre f s.main.f s.eir.msb (decide (s.eir = 0)) (flagLV s.main.f) (flagC s.main.f) ∧
      exec .ldAEIR s = .next { s with main := { s.main with a := s.eir, f := f }, pc := pc, inhibit := false }) ∧
    ∀ (i : Instr) (t : State), i.isBase = true → i ≠ .ldEIRA → exec i s = .next t → t.eir = s.eir

/-- LD SP,HL, LD SP,IX, LD SP,IY and LD XPC,A load and hold off interrupts (42_move_exchange_stack.md R157, 42_move_exchange_stack.md R162, 42_move_exchange_stack.md R163, 42_move_exchange_stack.md R164, 60_exceptions.md R410). Rests on the spec's own choices: opcode bytes and lengths (log 1); which prefix sets there are (log 2); what ALTD does to flags and to SP (log 16), that a prefix without a letter does nothing (log 17); addresses and PC modulo 65536 (log 19); all 8 bits of XPC count (log 24). -/
def Obligations.PrivilegedLoadsOfSpAndXpc : Prop :=
  ∀ (p : Pfx) (s : State),
    RunsPrivileged p .ldSPHL s { s with sp := s.hl } 1 ∧
    RunsPrivileged p .ldSPIX s { s with sp := s.ix } 2 ∧
    RunsPrivileged p .ldSPIY s { s with sp := s.iy } 2 ∧
    RunsPrivileged p .ldXPCA s { s with xpc := s.main.a } 2

/-- The EX rows and EXX exchange exactly what they name (42_move_exchange_stack.md R167, 42_move_exchange_stack.md R168, 42_move_exchange_stack.md R169, 42_move_exchange_stack.md R170, 42_move_exchange_stack.md R171, 42_move_exchange_stack.md R172, 42_move_exchange_stack.md R173, 42_move_exchange_stack.md R174, 42_move_exchange_stack.md R175). Model's choice: That the four bits of F without a flag move with AF is the model's choice (log 12). Rests on the spec's own choices: opcode bytes and lengths (log 1); which prefix sets there are (log 2); what ALTD does to flags and to SP (log 16), that a prefix without a letter does nothing (log 17); addresses and PC modulo 65536 (log 19). -/
def Obligations.Exchanges : Prop :=
  ∀ (p : Pfx) (s : State),
    let top := mkWord (s.mem8 (s.sp + 1)) (s.mem8 s.sp)
    Runs p .exAF s { s with main := { s.main with a := s.alt.a, f := s.alt.f }, alt := { s.alt with a := s.main.a, f := s.main.f } } 1 ∧
    Runs p .exx s { s with main := { s.alt with a := s.main.a, f := s.main.f }, alt := { s.main with a := s.alt.a, f := s.alt.f } } 1 ∧
    (p.hasAlt = false → Runs p .exDEaHL s { s with alt := s.alt.setDE s.main.hl, main := s.main.setHL s.alt.de } 1) ∧
    (p.hasAlt = true → Runs p .exDEaHL s { s with alt := (s.alt.setDE s.alt.hl).setHL s.alt.de } 1) ∧
    Runs .none .exDEaHLa s { s with alt := (s.alt.setDE s.alt.hl).setHL s.alt.de } 2 ∧
    (p.hasAlt = false → Runs p .exDEHL s { s with main := (s.main.setDE s.main.hl).setHL s.main.de } 1) ∧
    (p.hasAlt = true → Runs p .exDEHL s { s with main := s.main.setDE s.alt.hl, alt := s.alt.setHL s.main.de } 1) ∧
    Runs .none .exDEHLa s { s with main := s.main.setDE s.alt.hl, alt := s.alt.setHL s.main.de } 2 ∧
    Runs p .exMspHL s (((s.wrMem8 s.sp (loByte s.hl)).wrMem8 (s.sp + 1) (hiByte s.hl)).updBank p.hasAlt fun k => k.setHL top) 2 ∧
    Runs p .exMspIX s { (s.wrMem8 s.sp (loByte s.ix)).wrMem8 (s.sp + 1) (hiByte s.ix) with ix := top } 2 ∧
    Runs p .exMspIY s { (s.wrMem8 s.sp (loByte s.iy)).wrMem8 (s.sp + 1) (hiByte s.iy) with iy := top } 2

/-- PUSH zz, PUSH IX and PUSH IY store the high byte at SP-1, the low byte at SP-2, and lower SP by 2 (42_move_exchange_stack.md R182, 42_move_exchange_stack.md R183, 42_move_exchange_stack.md R184, 10_state.md R17, 10_state.md R19). Model's choice: PUSH AF stores A and a byte whose four flags are those of F and whose other four bits are free (log 12). Rests on the spec's own choices: opcode bytes and lengths (log 1); which prefix sets there are (log 2); what ALTD does to flags and to SP (log 16), that a prefix without a letter does nothing (log 17); addresses and PC modulo 65536 (log 19). -/
def Obligations.PushesStoreBelowTheStackPointer : Prop :=
  ∀ (p : Pfx) (s : State),
    Runs p (.pushZZ .bc) s { (s.wrMem8 (s.sp - 1) (hiByte s.bc)).wrMem8 (s.sp - 2) (loByte s.bc) with sp := s.sp - 2 } 1 ∧
    Runs p (.pushZZ .de) s { (s.wrMem8 (s.sp - 1) (hiByte s.de)).wrMem8 (s.sp - 2) (loByte s.de) with sp := s.sp - 2 } 1 ∧
    Runs p (.pushZZ .hl) s { (s.wrMem8 (s.sp - 1) (hiByte s.hl)).wrMem8 (s.sp - 2) (loByte s.hl) with sp := s.sp - 2 } 1 ∧
    Runs p .pushIX s { (s.wrMem8 (s.sp - 1) (hiByte s.ix)).wrMem8 (s.sp - 2) (loByte s.ix) with sp := s.sp - 2 } 2 ∧
    Runs p .pushIY s { (s.wrMem8 (s.sp - 1) (hiByte s.iy)).wrMem8 (s.sp - 2) (loByte s.iy) with sp := s.sp - 2 } 2 ∧
    (∃ f, flagS f = flagS s.main.f ∧ flagZ f = flagZ s.main.f ∧ flagLV f = flagLV s.main.f ∧ flagC f = flagC s.main.f ∧
      Runs p (.pushZZ .af) s
        { (s.wrMem8 (s.sp - 1) s.main.a).wrMem8 (s.sp - 2) f with sp := s.sp - 2, draws := s.draws + 1 } 1)

/-- POP zz, POP IX and POP IY load the word at SP and raise SP by 2 (42_move_exchange_stack.md R178, 42_move_exchange_stack.md R179, 42_move_exchange_stack.md R180). Rests on the spec's own choices: opcode bytes and lengths (log 1); which prefix sets there are (log 2); what ALTD does to flags and to SP (log 16), that a prefix without a letter does nothing (log 17); addresses and PC modulo 65536 (log 19). -/
def Obligations.PopsLoadFromTheStackPointer : Prop :=
  ∀ (p : Pfx) (s : State),
    let hi := s.mem8 (s.sp + 1)
    let lo := s.mem8 s.sp
    Runs p (.popZZ .bc) s { s.updBank p.hasAlt fun k => { k with b := hi, c := lo } with sp := s.sp + 2 } 1 ∧
    Runs p (.popZZ .de) s { s.updBank p.hasAlt fun k => { k with d := hi, e := lo } with sp := s.sp + 2 } 1 ∧
    Runs p (.popZZ .hl) s { s.updBank p.hasAlt fun k => { k with h := hi, l := lo } with sp := s.sp + 2 } 1 ∧
    Runs p (.popZZ .af) s { s.updBank p.hasAlt fun k => { k with a := hi, f := lo } with sp := s.sp + 2 } 1 ∧
    Runs p .popIX s { s with ix := mkWord hi lo, sp := s.sp + 2 } 2 ∧
    Runs p .popIY s { s with iy := mkWord hi lo, sp := s.sp + 2 } 2

/-- A POP after a PUSH brings back the value and SP (42_move_exchange_stack.md R180, 42_move_exchange_stack.md R184, 42_move_exchange_stack.md R178, 42_move_exchange_stack.md R182, 42_move_exchange_stack.md R179, 10_state.md R19). Rests on the spec's own choices: addresses and PC modulo 65536 (log 19). -/
def Obligations.PopUndoesPush : Prop :=
  ∀ (s : State) (zz : ZZ), s.phys (s.sp - 1) ≠ s.phys (s.sp - 2) →
    (∃ t u, exec (.pushZZ zz) s = .next t ∧ exec (.popZZ zz) t = .next u ∧ u.sp = s.sp ∧ u.bc = s.bc ∧ u.de = s.de ∧
      u.hl = s.hl ∧ u.main.a = s.main.a ∧ flagS u.main.f = flagS s.main.f ∧ flagZ u.main.f = flagZ s.main.f ∧
      flagLV u.main.f = flagLV s.main.f ∧ flagC u.main.f = flagC s.main.f) ∧
    (∃ t u, exec (.pushZZ .hl) s = .next t ∧ exec .popIX t = .next u ∧ u.ix = s.hl ∧ u.sp = s.sp) ∧
    ∃ t u, exec .pushIX s = .next t ∧ exec .popIY t = .next u ∧ u.iy = s.ix ∧ u.sp = s.sp

/-- ADD SP,d adds the displacement to SP and sets C to the carry out of bit 15 (42_move_exchange_stack.md R176). Model's choice: That d is sign-extended and that C is this carry are the spec's decisions D16 and D17 (log 14). Rests on the spec's own choices: opcode bytes and lengths (log 1); which prefix sets there are (log 2); what ALTD does to flags and to SP (log 16), that a prefix without a letter does nothing (log 17); addresses and PC modulo 65536 (log 19); the places of the flags in F and that the other four bits keep their value (log 11, log 12). -/
def Obligations.AddToTheStackPointer : Prop :=
  ∀ (p : Pfx) (s : State) (d : Byte),
    RunsWithFlags p (.addSPd d) s { s with sp := s.sp + d.signExtend 16 } 2 (s.oldS p) (s.oldZ p) (s.oldLV p)
      (decide (65536 ≤ s.sp.toNat + (d.signExtend 16).toNat))

/-- ADC HL,ss, ADD HL,ss, ADD IX,xx, ADD IY,yy and SBC HL,ss: result, carry and overflow (43_arith16.md R185, 43_arith16.md R186, 43_arith16.md R187, 43_arith16.md R188, 43_arith16.md R189, 43_arith16.md R211). Rests on the spec's own choices: opcode bytes and lengths (log 1); which prefix sets there are (log 2); what ALTD does to flags and to SP (log 16), that a prefix without a letter does nothing (log 17); addresses and PC modulo 65536 (log 19); the places of the flags in F and that the other four bits keep their value (log 11, log 12); the overflow condition and the borrow of SBC (log 22). -/
def Obligations.SixteenBitAdditionsAndSubtraction : Prop :=
  ∀ (p : Pfx) (s : State) (ss : SS) (xx : XX) (yy : YY),
    let v := s.getSS ss
    let c := (flagC s.main.f).toNat
    let res := s.hl + v + BitVec.ofNat 16 c
    let dif := s.hl - v - BitVec.ofNat 16 c
    RunsWithFlags p (.adcHLss ss) s (s.updBank p.hasAlt fun k => k.setHL res) 2 res.msb (decide (res = 0))
      (overflows 16 (s.hl.toInt + v.toInt + c)) (decide (65536 ≤ s.hl.toNat + v.toNat + c)) ∧
    RunsWithFlags p (.addHLss ss) s (s.updBank p.hasAlt fun k => k.setHL (s.hl + v)) 1 (s.oldS p) (s.oldZ p)
      (s.oldLV p) (decide (65536 ≤ s.hl.toNat + v.toNat)) ∧
    RunsWithFlags p (.addIXxx xx) s { s with ix := s.ix + s.getXX xx } 2 (s.oldS p) (s.oldZ p)
      (s.oldLV p) (decide (65536 ≤ s.ix.toNat + (s.getXX xx).toNat)) ∧
    RunsWithFlags p (.addIYyy yy) s { s with iy := s.iy + s.getYY yy } 2 (s.oldS p) (s.oldZ p)
      (s.oldLV p) (decide (65536 ≤ s.iy.toNat + (s.getYY yy).toNat)) ∧
    RunsWithFlags p (.sbcHLss ss) s (s.updBank p.hasAlt fun k => k.setHL dif) 2 dif.msb (decide (dif = 0))
      (overflows 16 (s.hl.toInt - v.toInt - c)) (decide (s.hl.toNat < v.toNat + c))

/-- AND, OR with DE and BOOL on HL, IX and IY (43_arith16.md R185, 43_arith16.md R190, 43_arith16.md R191, 43_arith16.md R192, 43_arith16.md R193, 43_arith16.md R194, 43_arith16.md R195, 43_arith16.md R203, 43_arith16.md R204, 43_arith16.md R205). Rests on the spec's own choices: opcode bytes and lengths (log 1); which prefix sets there are (log 2); what ALTD does to flags and to SP (log 16), that a prefix without a letter does nothing (log 17); addresses and PC modulo 65536 (log 19); the places of the flags in F and that the other four bits keep their value (log 11, log 12). -/
def Obligations.SixteenBitLogicalOperations : Prop :=
  ∀ (p : Pfx) (s : State),
    RunsWithFlags p .andHLDE s (s.updBank p.hasAlt fun k => k.setHL (s.hl &&& s.de)) 1 (s.hl &&& s.de).msb
      (decide (s.hl &&& s.de = 0)) (highNibble16 (s.hl &&& s.de)) false ∧
    RunsWithFlags p .andIXDE s { s with ix := s.ix &&& s.de } 2 (s.ix &&& s.de).msb
      (decide (s.ix &&& s.de = 0)) (highNibble16 (s.ix &&& s.de)) false ∧
    RunsWithFlags p .andIYDE s { s with iy := s.iy &&& s.de } 2 (s.iy &&& s.de).msb
      (decide (s.iy &&& s.de = 0)) (highNibble16 (s.iy &&& s.de)) false ∧
    RunsWithFlags p .orHLDE s (s.updBank p.hasAlt fun k => k.setHL (s.hl ||| s.de)) 1 (s.hl ||| s.de).msb
      (decide (s.hl ||| s.de = 0)) (highNibble16 (s.hl ||| s.de)) false ∧
    RunsWithFlags p .orIXDE s { s with ix := s.ix ||| s.de } 2 (s.ix ||| s.de).msb
      (decide (s.ix ||| s.de = 0)) (highNibble16 (s.ix ||| s.de)) false ∧
    RunsWithFlags p .orIYDE s { s with iy := s.iy ||| s.de } 2 (s.iy ||| s.de).msb
      (decide (s.iy ||| s.de = 0)) (highNibble16 (s.iy ||| s.de)) false ∧
    RunsWithFlags p .boolHL s (s.updBank p.hasAlt fun k => k.setHL (if s.hl = 0 then 0 else 1)) 1 false
      (decide (s.hl = 0)) false false ∧
    RunsWithFlags p .boolIX s { s with ix := if s.ix = 0 then 0 else 1 } 2 false
      (decide (s.ix = 0)) false false ∧
    RunsWithFlags p .boolIY s { s with iy := if s.iy = 0 then 0 else 1 } 2 false
      (decide (s.iy = 0)) false false

/-- INC and DEC of ss, IX and IY change no flag (43_arith16.md R196, 43_arith16.md R197, 43_arith16.md R198, 43_arith16.md R199, 43_arith16.md R200, 43_arith16.md R201). Rests on the spec's own choices: opcode bytes and lengths (log 1); which prefix sets there are (log 2); what ALTD does to flags and to SP (log 16), that a prefix without a letter does nothing (log 17); addresses and PC modulo 65536 (log 19). -/
def Obligations.SixteenBitIncrementAndDecrement : Prop :=
  ∀ (p : Pfx) (s : State),
    Runs p (.incSS .bc) s (s.updBank p.hasAlt fun k => k.setBC (s.bc + 1)) 1 ∧
    Runs p (.incSS .de) s (s.updBank p.hasAlt fun k => k.setDE (s.de + 1)) 1 ∧
    Runs p (.incSS .hl) s (s.updBank p.hasAlt fun k => k.setHL (s.hl + 1)) 1 ∧
    Runs p (.incSS .sp) s { s with sp := s.sp + 1 } 1 ∧
    Runs p (.decSS .bc) s (s.updBank p.hasAlt fun k => k.setBC (s.bc - 1)) 1 ∧
    Runs p (.decSS .de) s (s.updBank p.hasAlt fun k => k.setDE (s.de - 1)) 1 ∧
    Runs p (.decSS .hl) s (s.updBank p.hasAlt fun k => k.setHL (s.hl - 1)) 1 ∧
    Runs p (.decSS .sp) s { s with sp := s.sp - 1 } 1 ∧
    Runs p .incIX s { s with ix := s.ix + 1 } 2 ∧
    Runs p .incIY s { s with iy := s.iy + 1 } 2 ∧
    Runs p .decIX s { s with ix := s.ix - 1 } 2 ∧
    Runs p .decIY s { s with iy := s.iy - 1 } 2

/-- RL DE, RR DE, RR HL, RR IX and RR IY rotate through F.C (43_arith16.md R185, 43_arith16.md R206, 43_arith16.md R207, 43_arith16.md R208, 43_arith16.md R209, 43_arith16.md R210). Rests on the spec's own choices: opcode bytes and lengths (log 1); which prefix sets there are (log 2); what ALTD does to flags and to SP (log 16), that a prefix without a letter does nothing (log 17); addresses and PC modulo 65536 (log 19); the places of the flags in F and that the other four bits keep their value (log 11, log 12). -/
def Obligations.SixteenBitRotatesThroughCarry : Prop :=
  ∀ (p : Pfx) (s : State),
    let rl := fun v : Word => (v.extractLsb' 0 15 ++ BitVec.ofBool (flagC s.main.f) : Word)
    let rr := fun v : Word => (BitVec.ofBool (flagC s.main.f) ++ v.extractLsb' 1 15 : Word)
    RunsWithFlags p .rlDE s (s.updBank p.hasAlt fun k => k.setDE (rl s.de)) 1 (rl s.de).msb
      (decide (rl s.de = 0)) (highNibble16 (rl s.de)) (s.de.getLsbD 15) ∧
    RunsWithFlags p .rrDE s (s.updBank p.hasAlt fun k => k.setDE (rr s.de)) 1 (rr s.de).msb
      (decide (rr s.de = 0)) (highNibble16 (rr s.de)) (s.de.getLsbD 0) ∧
    RunsWithFlags p .rrHL s (s.updBank p.hasAlt fun k => k.setHL (rr s.hl)) 1 (rr s.hl).msb
      (decide (rr s.hl = 0)) (highNibble16 (rr s.hl)) (s.hl.getLsbD 0) ∧
    RunsWithFlags p .rrIX s { s with ix := rr s.ix } 2 (rr s.ix).msb
      (decide (rr s.ix = 0)) (highNibble16 (rr s.ix)) (s.ix.getLsbD 0) ∧
    RunsWithFlags p .rrIY s { s with iy := rr s.iy } 2 (rr s.iy).msb
      (decide (rr s.iy = 0)) (highNibble16 (rr s.iy)) (s.iy.getLsbD 0)

/-- MUL gives the exact signed 32-bit product in HL:BC (43_arith16.md R202). Rests on the spec's own choices: opcode bytes and lengths (log 1); which prefix sets there are (log 2); what ALTD does to flags and to SP (log 16), that a prefix without a letter does nothing (log 17); addresses and PC modulo 65536 (log 19). -/
def Obligations.MultiplyIsExact : Prop :=
  ∀ (p : Pfx) (s : State), ∃ hl bc : Word, (hl ++ bc : BitVec 32).toInt = s.bc.toInt * s.de.toInt ∧
    Runs p .mul s { s with main := (s.main.setHL hl).setBC bc } 1

/-- ADD A and ADC A on all five operand forms: sum, carry and overflow (44_arith8.md R212, 44_arith8.md R213, 44_arith8.md R215, 44_arith8.md R216, 44_arith8.md R217, 44_arith8.md R218, 44_arith8.md R219, 44_arith8.md R220, 44_arith8.md R221, 44_arith8.md R222, 44_arith8.md R223, 44_arith8.md R224). Rests on the spec's own choices: opcode bytes and lengths (log 1); which prefix sets there are (log 2); what ALTD does to flags and to SP (log 16), that a prefix without a letter does nothing (log 17); the I/O spaces as environments (log 6); addresses and PC modulo 65536 (log 19); the places of the flags in F and that the other four bits keep their value (log 11, log 12); the overflow condition and the borrow of SBC (log 22). -/
def Obligations.EightBitAdditions : Prop :=
  ∀ (p : Pfx) (s : State) (x : Form8),
    let a := s.main.a
    let v := x.value p.ctx s
    let c := (flagC s.main.f).toNat
    let sum := a + v + BitVec.ofNat 8 c
    RunsWithFlags p x.add s ((x.after p.ctx s).updBank p.hasAlt fun k => { k with a := a + v }) x.len (a + v).msb
      (decide (a + v = 0)) (overflows 8 (a.toInt + v.toInt)) (decide (256 ≤ a.toNat + v.toNat)) ∧
    RunsWithFlags p x.adc s ((x.after p.ctx s).updBank p.hasAlt fun k => { k with a := sum }) x.len (sum).msb
      (decide (sum = 0)) (overflows 8 (a.toInt + v.toInt + c)) (decide (256 ≤ a.toNat + v.toNat + c))

/-- SUB, SBC A and CP on all five operand forms: difference, borrow and overflow (44_arith8.md R212, 44_arith8.md R213, 44_arith8.md R214, 44_arith8.md R230, 44_arith8.md R234, 44_arith8.md R240, 44_arith8.md R242, 44_arith8.md R244, 44_arith8.md R245, 44_arith8.md R249, 44_arith8.md R243, 44_arith8.md R248). Model's choice: For the five operand forms, behind every prefix set, SUB, SBC and CP complete: SUB and SBC put the difference modulo 256 in A (A' under ALTD), SBC subtracting F.C too, CP writes no register; L/V = 1 exactly when the exact signed difference does not fit 8 bits; C of SBC and CP is the borrow; C of SUB is the borrow or its complement, as the open parameter SUB_CARRY_SENSE says (log 13). Rests on the spec's own choices: opcode bytes and lengths (log 1); which prefix sets there are (log 2); what ALTD does to flags and to SP (log 16), that a prefix without a letter does nothing (log 17); the I/O spaces as environments (log 6); addresses and PC modulo 65536 (log 19); the places of the flags in F and that the other four bits keep their value (log 11, log 12); the overflow condition and the borrow of SBC (log 22). -/
def Obligations.EightBitSubtractions : Prop :=
  ∀ (p : Pfx) (s : State) (x : Form8),
    let a := s.main.a
    let v := x.value p.ctx s
    let c := (flagC s.main.f).toNat
    let dif := a - v - BitVec.ofNat 8 c
    RunsWithFlags p x.sub s ((x.after p.ctx s).updBank p.hasAlt fun k => { k with a := a - v }) x.len (a - v).msb
      (decide (a - v = 0)) (overflows 8 (a.toInt - v.toInt)) (subCarry Config.subCarrySense (decide (a.toNat < v.toNat))) ∧
    RunsWithFlags p x.sbc s ((x.after p.ctx s).updBank p.hasAlt fun k => { k with a := dif }) x.len (dif).msb
      (decide (dif = 0)) (overflows 8 (a.toInt - v.toInt - c)) (decide (a.toNat < v.toNat + c)) ∧
    RunsWithFlags p x.cp s (x.after p.ctx s) x.len (a - v).msb (decide (a - v = 0)) (overflows 8 (a.toInt - v.toInt))
      (decide (a.toNat < v.toNat))

/-- AND, OR and XOR on all five operand forms: result and flags (44_arith8.md R212, 44_arith8.md R213, 44_arith8.md R225, 44_arith8.md R226, 44_arith8.md R229, 44_arith8.md R235, 44_arith8.md R236, 44_arith8.md R239, 44_arith8.md R250, 44_arith8.md R251, 44_arith8.md R254). Rests on the spec's own choices: opcode bytes and lengths (log 1); which prefix sets there are (log 2); what ALTD does to flags and to SP (log 16), that a prefix without a letter does nothing (log 17); the I/O spaces as environments (log 6); addresses and PC modulo 65536 (log 19); the places of the flags in F and that the other four bits keep their value (log 11, log 12). -/
def Obligations.EightBitLogicalOperations : Prop :=
  ∀ (p : Pfx) (s : State) (x : Form8),
    let a := s.main.a
    let v := x.value p.ctx s
    RunsWithFlags p x.conj s ((x.after p.ctx s).updBank p.hasAlt fun k => { k with a := a &&& v }) x.len (a &&& v).msb
      (decide (a &&& v = 0)) (highNibble (a &&& v)) false ∧
    RunsWithFlags p x.disj s ((x.after p.ctx s).updBank p.hasAlt fun k => { k with a := a ||| v }) x.len (a ||| v).msb
      (decide (a ||| v = 0)) (highNibble (a ||| v)) false ∧
    RunsWithFlags p x.xor s ((x.after p.ctx s).updBank p.hasAlt fun k => { k with a := a ^^^ v }) x.len (a ^^^ v).msb
      (decide (a ^^^ v = 0)) (highNibble (a ^^^ v)) false

/-- BIT b sets Z to the complement of the bit and changes nothing else (45_bit_incdec_fastA.md R255, 45_bit_incdec_fastA.md R256, 45_bit_incdec_fastA.md R257, 45_bit_incdec_fastA.md R258, 60_exceptions.md R410). Rests on the spec's own choices: opcode bytes and lengths (log 1); which prefix sets there are (log 2); what ALTD does to flags and to SP (log 16), that a prefix without a letter does nothing (log 17); the I/O spaces as environments (log 6); addresses and PC modulo 65536 (log 19); the places of the flags in F and that the other four bits keep their value (log 11, log 12). -/
def Obligations.BitTests : Prop :=
  ∀ (p : Pfx) (s : State) (b : BitVec 3) (d : Byte) (r : R8),
    (∃ f, FlagsAre f (s.bank p.hasAlt).f (s.oldS p) (!(s.rdS8 p.ctx s.hl).getLsbD b.toNat) (s.oldLV p) (s.oldC p) ∧
      RunsPrivileged p (.bitMhl b) s ((s.afterRead p.ctx 1).updBank p.hasAlt fun k => { k with f := f }) 2) ∧
    RunsWithFlags p (.bitMix b d) s (s.afterRead p.ctx 1) 4 (s.oldS p)
      (!(s.rdS8 p.ctx (s.ix + sext d)).getLsbD b.toNat) (s.oldLV p) (s.oldC p) ∧
    RunsWithFlags p (.bitMiy b d) s (s.afterRead p.ctx 1) 4 (s.oldS p)
      (!(s.rdS8 p.ctx (s.iy + sext d)).getLsbD b.toNat) (s.oldLV p) (s.oldC p) ∧
    RunsWithFlags p (.bitR b r) s s 2 (s.oldS p) (!(s.main.get r).getLsbD b.toNat) (s.oldLV p) (s.oldC p)

/-- SET b and RES b change the one bit and no flag (45_bit_incdec_fastA.md R259, 45_bit_incdec_fastA.md R260, 45_bit_incdec_fastA.md R261, 45_bit_incdec_fastA.md R262, 45_bit_incdec_fastA.md R263, 45_bit_incdec_fastA.md R264, 45_bit_incdec_fastA.md R265, 45_bit_incdec_fastA.md R266). Model's choice: That an I/O prefix moves both accesses of RES is the spec's decision D22 (log 17). Rests on the spec's own choices: opcode bytes and lengths (log 1); which prefix sets there are (log 2); what ALTD does to flags and to SP (log 16), that a prefix without a letter does nothing (log 17); the I/O spaces as environments (log 6); addresses and PC modulo 65536 (log 19). -/
def Obligations.BitSetAndReset : Prop :=
  ∀ (p : Pfx) (s : State) (b : BitVec 3) (x : FormM) (r : R8),
    let v := s.rdS8 p.ctx (x.addr s)
    let u := s.main.get r
    (∃ w : Byte, (∀ j, j < 8 → w.getLsbD j = if j = b.toNat then true else v.getLsbD j) ∧
      Runs p (x.set b) s ((s.afterRead p.ctx 1).wrD8 p.ctx (x.addr s) w) x.lenCB) ∧
    (∃ w : Byte, (∀ j, j < 8 → w.getLsbD j = if j = b.toNat then false else v.getLsbD j) ∧
      Runs p (x.res b) s ((s.afterRead p.ctx 1).wrD8 p.ctx (x.addr s) w) x.lenCB) ∧
    (∃ w : Byte, (∀ j, j < 8 → w.getLsbD j = if j = b.toNat then true else u.getLsbD j) ∧
      Runs p (.setR b r) s (s.updBank p.hasAlt fun k => k.set r w) 2) ∧
    ∃ w : Byte, (∀ j, j < 8 → w.getLsbD j = if j = b.toNat then false else u.getLsbD j) ∧
      Runs p (.resR b r) s (s.updBank p.hasAlt fun k => k.set r w) 2

/-- BIT b,(HL) then SET b,(HL): Z tells the old bit, the bit is set, no interrupt between (20_memory.md R52, 45_bit_incdec_fastA.md R255, 45_bit_incdec_fastA.md R263). Rests on the spec's own choices: the form of IRQ and of its boundary (log 7). -/
def Obligations.SemaphoreIdiomTakesTheOldBit : Prop :=
  ∀ (s : State) (b : BitVec 3), ∃ t u, exec (.bitMhl b) s = .next t ∧ t.boundary = { t with irq := t.irq.tail } ∧
    exec (.setMhl b) t.boundary = .next u ∧ flagZ u.main.f = !(s.mem8 s.hl).getLsbD b.toNat ∧
    (u.mem8 s.hl).getLsbD b.toNat = true ∧ u.hl = s.hl

/-- INC and DEC of a byte: result, S, Z and L/V; C is not changed (45_bit_incdec_fastA.md R267, 45_bit_incdec_fastA.md R268, 45_bit_incdec_fastA.md R269, 45_bit_incdec_fastA.md R270, 45_bit_incdec_fastA.md R271, 45_bit_incdec_fastA.md R272, 45_bit_incdec_fastA.md R273, 45_bit_incdec_fastA.md R274, 45_bit_incdec_fastA.md R275, 10_state.md R16). Rests on the spec's own choices: opcode bytes and lengths (log 1); which prefix sets there are (log 2); what ALTD does to flags and to SP (log 16), that a prefix without a letter does nothing (log 17); the I/O spaces as environments (log 6); addresses and PC modulo 65536 (log 19); the places of the flags in F and that the other four bits keep their value (log 11, log 12); the overflow condition and the borrow of SBC (log 22). -/
def Obligations.FlagsOfIncrementAndDecrement : Prop :=
  ∀ (p : Pfx) (s : State) (x : FormM) (r : R8),
    let v := s.rdS8 p.ctx (x.addr s)
    let u := s.main.get r
    RunsWithFlags p x.inc s ((s.afterRead p.ctx 1).wrD8 p.ctx (x.addr s) (v + 1)) x.lenInc (v + 1).msb
      (decide (v + 1 = 0)) (decide (v = 0x7F)) (s.oldC p) ∧
    RunsWithFlags p x.dec s ((s.afterRead p.ctx 1).wrD8 p.ctx (x.addr s) (v - 1)) x.lenInc (v - 1).msb
      (decide (v - 1 = 0)) (decide (v = 0x80)) (s.oldC p) ∧
    RunsWithFlags p (.incR r) s (s.updBank p.hasAlt fun k => k.set r (u + 1)) 1 (u + 1).msb
      (decide (u + 1 = 0)) (decide (u = 0x7F)) (s.oldC p) ∧
    RunsWithFlags p (.decR r) s (s.updBank p.hasAlt fun k => k.set r (u - 1)) 1 (u - 1).msb
      (decide (u - 1 = 0)) (decide (u = 0x80)) (s.oldC p) ∧
    (∀ w : Byte, sumOv w 1 false = decide (w = 0x7F) ∧ diffOv w 1 false = decide (w = 0x80)) ∧ (0xFF + 1 : Byte) = 0

/-- CPL, NEG, RLA, RLCA, RRA, RRCA, CCF, SCF and NOP (45_bit_incdec_fastA.md R276, 45_bit_incdec_fastA.md R277, 45_bit_incdec_fastA.md R278, 45_bit_incdec_fastA.md R279, 45_bit_incdec_fastA.md R280, 45_bit_incdec_fastA.md R281, 49_misc_privileged.md R337, 49_misc_privileged.md R343, 49_misc_privileged.md R344). Model's choice: Behind every prefix set: CPL completes with the complement of A and no flag changed; NEG with 0 - A, S and Z from the result, L/V = 1 exactly when A = 0x80, C = 1 exactly when A is not 0 (the spec's decision D24, log 22); the four rotates with A rotated, through F.C for RLA and RRA, C the bit shifted out and S, Z, L/V unchanged. Rests on the spec's own choices: opcode bytes and lengths (log 1); which prefix sets there are (log 2); what ALTD does to flags and to SP (log 16), that a prefix without a letter does nothing (log 17); addresses and PC modulo 65536 (log 19); the places of the flags in F and that the other four bits keep their value (log 11, log 12). -/
def Obligations.FastAccumulatorAndFlagOperations : Prop :=
  ∀ (p : Pfx) (s : State),
    let a := s.main.a
    Runs p .cpl s (s.updBank p.hasAlt fun k => { k with a := ~~~a }) 1 ∧
    RunsWithFlags p .neg s (s.updBank p.hasAlt fun k => { k with a := -a }) 2 (-a).msb (decide (a = 0)) (decide (a = 0x80))
      (decide (a ≠ 0)) ∧
    RunsWithFlags p .rla s (s.updBank p.hasAlt fun k => { k with a := (a.extractLsb' 0 7 ++ BitVec.ofBool (flagC s.main.f) : Byte) }) 1 (s.oldS p) (s.oldZ p)
      (s.oldLV p) (a.getLsbD 7) ∧
    RunsWithFlags p .rlca s (s.updBank p.hasAlt fun k => { k with a := (a.extractLsb' 0 7 ++ BitVec.ofBool (a.getLsbD 7) : Byte) }) 1 (s.oldS p) (s.oldZ p)
      (s.oldLV p) (a.getLsbD 7) ∧
    RunsWithFlags p .rra s (s.updBank p.hasAlt fun k => { k with a := (BitVec.ofBool (flagC s.main.f) ++ a.extractLsb' 1 7 : Byte) }) 1 (s.oldS p) (s.oldZ p)
      (s.oldLV p) (a.getLsbD 0) ∧
    RunsWithFlags p .rrca s (s.updBank p.hasAlt fun k => { k with a := (BitVec.ofBool (a.getLsbD 0) ++ a.extractLsb' 1 7 : Byte) }) 1 (s.oldS p) (s.oldZ p)
      (s.oldLV p) (a.getLsbD 0) ∧
    RunsWithFlags p .ccf s s 1 (s.oldS p) (s.oldZ p) (s.oldLV p) (!flagC s.main.f) ∧
    RunsWithFlags p .scf s s 1 (s.oldS p) (s.oldZ p) (s.oldLV p) true ∧
    Runs p .nop s s 1

/-- The seven shifts and rotates on all four operand forms: result, carry and flags (46_shift_rotate.md R282, 46_shift_rotate.md R283, 46_shift_rotate.md R286, 46_shift_rotate.md R287, 46_shift_rotate.md R290, 46_shift_rotate.md R291, 46_shift_rotate.md R294, 46_shift_rotate.md R295, 46_shift_rotate.md R299, 46_shift_rotate.md R303, 46_shift_rotate.md R307, 46_shift_rotate.md R310). Rests on the spec's own choices: opcode bytes and lengths (log 1); which prefix sets there are (log 2); what ALTD does to flags and to SP (log 16), that a prefix without a letter does nothing (log 17); the I/O spaces as environments (log 6); addresses and PC modulo 65536 (log 19); the places of the flags in F and that the other four bits keep their value (log 11, log 12). -/
def Obligations.ShiftsAndRotatesOfAByte : Prop :=
  ∀ (p : Pfx) (s : State),
    ShiftsTo p s FormM.rl Instr.rlR (fun v => (v.extractLsb' 0 7 ++ BitVec.ofBool (flagC s.main.f) : Byte)) (fun v => v.getLsbD 7) ∧
    ShiftsTo p s FormM.rlc Instr.rlcR (fun v => (v.extractLsb' 0 7 ++ BitVec.ofBool (v.getLsbD 7) : Byte)) (fun v => v.getLsbD 7) ∧
    ShiftsTo p s FormM.rr Instr.rrR (fun v => (BitVec.ofBool (flagC s.main.f) ++ v.extractLsb' 1 7 : Byte)) (fun v => v.getLsbD 0) ∧
    ShiftsTo p s FormM.rrc Instr.rrcR (fun v => (BitVec.ofBool (v.getLsbD 0) ++ v.extractLsb' 1 7 : Byte)) (fun v => v.getLsbD 0) ∧
    ShiftsTo p s FormM.sla Instr.slaR (fun v => (v.extractLsb' 0 7 ++ 0#1 : Byte)) (fun v => v.getLsbD 7) ∧
    ShiftsTo p s FormM.sra Instr.sraR (fun v => (BitVec.ofBool (v.getLsbD 7) ++ v.extractLsb' 1 7 : Byte)) (fun v => v.getLsbD 0) ∧
    ShiftsTo p s FormM.srl Instr.srlR (fun v => (0#1 ++ v.extractLsb' 1 7 : Byte)) (fun v => v.getLsbD 0)

/-- LDI and LDD move one byte, step BC, DE and HL, and set L/V when BC becomes 0 (47_prefix_block.md R314, 47_prefix_block.md R316, 47_prefix_block.md R318). Model's choice: That L/V is cleared otherwise is the spec's decision D25 (log 21). Rests on the spec's own choices: opcode bytes and lengths (log 1); which prefix sets there are (log 2); what ALTD does to flags and to SP (log 16), that a prefix without a letter does nothing (log 17); the I/O spaces as environments (log 6); addresses and PC modulo 65536 (log 19); the places of the flags in F and that the other four bits keep their value (log 11, log 12). -/
def Obligations.BlockMoveStep : Prop :=
  ∀ (p : Pfx) (s : State), ∃ f,
    FlagsAre f s.main.f (flagS s.main.f) (flagZ s.main.f) (decide (s.bc = 1)) (flagC s.main.f) ∧
    Runs p .ldi s
      { s.wrD8 p.ctx s.de (s.mem8 s.hl) with
        main := { ((s.main.setBC (s.bc - 1)).setDE (s.de + 1)).setHL (s.hl + 1) with f := f } } 2 ∧
    Runs p .ldd s
      { s.wrD8 p.ctx s.de (s.mem8 s.hl) with
        main := { ((s.main.setBC (s.bc - 1)).setDE (s.de - 1)).setHL (s.hl - 1) with f := f } } 2

/-- LDIR and LDDR do one step; with BC not 0 the same instruction is next again, from its first prefix (47_prefix_block.md R315, 47_prefix_block.md R317, 47_prefix_block.md R319). Model's choice: One step for each execution is the spec's decision D23 (log 21). Rests on the spec's own choices: which prefix sets there are (log 2); what ALTD does to flags and to SP (log 16), that a prefix without a letter does nothing (log 17). -/
def Obligations.RepeatingMoveStepsOrEnds : Prop :=
  ∀ (p : Pfx) (s : State), ∃ t u, exec (p.wrap .ldi) s = .next t ∧ exec (p.wrap .ldd) s = .next u ∧
    exec (p.wrap .ldir) s = .next { t with pc := if s.bc = 1 then t.pc else s.pc } ∧
    exec (p.wrap .lddr) s = .next { u with pc := if s.bc = 1 then u.pc else s.pc } ∧
    t.inhibit = false ∧ u.inhibit = false

/-- LDIR and LDDR run BC steps, or 65536 when entered with BC = 0 (47_prefix_block.md R314, 47_prefix_block.md R315, 47_prefix_block.md R317, 47_prefix_block.md R319). Model's choice: That the step comes before the test is the spec's decision D23 (log 21). The end PC rests on the length of the instruction, which is general knowledge (log 1). Rests on the spec's own choices: which prefix sets there are (log 2); what ALTD does to flags and to SP (log 16), that a prefix without a letter does nothing (log 17); addresses and PC modulo 65536 (log 19). -/
def Obligations.RepeatingMoveRunsBcSteps : Prop :=
  ∀ (p : Pfx) (s : State) (n : Nat), 1 ≤ n → n ≤ moveCount s.bc →
    ∃ t u, execTimes (p.wrap .ldir) n s = some t ∧ execTimes (p.wrap .lddr) n s = some u ∧
      t.bc = s.bc - BitVec.ofNat 16 n ∧ t.de = s.de + BitVec.ofNat 16 n ∧ t.hl = s.hl + BitVec.ofNat 16 n ∧
      u.bc = s.bc - BitVec.ofNat 16 n ∧ u.de = s.de - BitVec.ofNat 16 n ∧ u.hl = s.hl - BitVec.ofNat 16 n ∧
      t.pc = (if n = moveCount s.bc then s.pc + BitVec.ofNat 16 (p.bytes.length + 2) else s.pc) ∧ u.pc = t.pc ∧
      flagLV t.main.f = decide (n = moveCount s.bc) ∧ flagLV u.main.f = decide (n = moveCount s.bc) ∧
      (n = moveCount s.bc → t.bc = 0 ∧ u.bc = 0)

/-- LDIR behind IOE sends the source bytes to the external I/O space in order (47_prefix_block.md R314, 47_prefix_block.md R319, 20_memory.md R48). Model's choice: That BC = 0 means 65536 steps is the spec's decision D23 (log 21). That an I/O write is an event is the spec's decision D3 (log 6). Rests on the spec's own choices: addresses and PC modulo 65536 (log 19). -/
def Obligations.RepeatingMoveWritesTheSourceToExternalIo : Prop :=
  ∀ (s : State) (n : Nat), n ≤ moveCount s.bc →
    ∃ t, execTimes (.ioe .ldir) n s = some t ∧ t.mem = s.mem ∧
      t.ioWrites = s.ioWrites ++ (List.range n).map fun k =>
        { space := .ext, addr := s.de + BitVec.ofNat 16 k, val := s.mem8 (s.hl + BitVec.ofNat 16 k) }

/-- JP f,mn and JR cc,e go by the flags of the main F (48_control.md R320, 48_control.md R326, 48_control.md R328). Rests on the spec's own choices: opcode bytes and lengths (log 1); which prefix sets there are (log 2); what ALTD does to flags and to SP (log 16), that a prefix without a letter does nothing (log 17); addresses and PC modulo 65536 (log 19). -/
def Obligations.ConditionalJumps : Prop :=
  ∀ (p : Pfx) (s : State) (mn : Word) (e : Byte),
    let rel := s.pc + BitVec.ofNat 16 (p.bytes.length + 2) + e.signExtend 16
    (flagZ s.main.f = false → JumpsTo p (.jpF .nz mn) s s mn) ∧ (flagZ s.main.f = true → Runs p (.jpF .nz mn) s s 3) ∧
    (flagZ s.main.f = true → JumpsTo p (.jpF .z mn) s s mn) ∧ (flagZ s.main.f = false → Runs p (.jpF .z mn) s s 3) ∧
    (flagC s.main.f = false → JumpsTo p (.jpF .nc mn) s s mn) ∧ (flagC s.main.f = true → Runs p (.jpF .nc mn) s s 3) ∧
    (flagC s.main.f = true → JumpsTo p (.jpF .c mn) s s mn) ∧ (flagC s.main.f = false → Runs p (.jpF .c mn) s s 3) ∧
    (flagLV s.main.f = false → JumpsTo p (.jpF .lz mn) s s mn) ∧ (flagLV s.main.f = true → Runs p (.jpF .lz mn) s s 3) ∧
    (flagLV s.main.f = true → JumpsTo p (.jpF .lo mn) s s mn) ∧ (flagLV s.main.f = false → Runs p (.jpF .lo mn) s s 3) ∧
    (flagS s.main.f = false → JumpsTo p (.jpF .p mn) s s mn) ∧ (flagS s.main.f = true → Runs p (.jpF .p mn) s s 3) ∧
    (flagS s.main.f = true → JumpsTo p (.jpF .m mn) s s mn) ∧ (flagS s.main.f = false → Runs p (.jpF .m mn) s s 3) ∧
    (flagZ s.main.f = false → JumpsTo p (.jrCC .nz e) s s rel) ∧ (flagZ s.main.f = true → Runs p (.jrCC .nz e) s s 2) ∧
    (flagZ s.main.f = true → JumpsTo p (.jrCC .z e) s s rel) ∧ (flagZ s.main.f = false → Runs p (.jrCC .z e) s s 2) ∧
    (flagC s.main.f = false → JumpsTo p (.jrCC .nc e) s s rel) ∧ (flagC s.main.f = true → Runs p (.jrCC .nc e) s s 2) ∧
    (flagC s.main.f = true → JumpsTo p (.jrCC .c e) s s rel) ∧ (flagC s.main.f = false → Runs p (.jrCC .c e) s s 2)

/-- JP mn, JP (HL), JP (IX), JP (IY), JR e, LJP and DJNZ (48_control.md R322, 48_control.md R323, 48_control.md R324, 48_control.md R325, 48_control.md R327, 48_control.md R329, 48_control.md R331). Model's choice: That the operand j of DJNZ is read as e, and that ALTD DJNZ counts into B' and tests B - 1, are the spec's inferences (log 28). Rests on the spec's own choices: opcode bytes and lengths (log 1); which prefix sets there are (log 2); what ALTD does to flags and to SP (log 16), that a prefix without a letter does nothing (log 17); addresses and PC modulo 65536 (log 19); all 8 bits of XPC count (log 24). -/
def Obligations.UnconditionalJumpsAndDjnz : Prop :=
  ∀ (p : Pfx) (s : State) (mn : Word) (e x : Byte),
    let rel := s.pc + BitVec.ofNat 16 (p.bytes.length + 2) + e.signExtend 16
    let counted := s.updBank p.hasAlt fun k => { k with b := s.main.b - 1 }
    JumpsTo p (.jpMn mn) s s mn ∧
    JumpsTo p .jpHL s s s.hl ∧
    JumpsTo p .jpIX s s s.ix ∧
    JumpsTo p .jpIY s s s.iy ∧
    JumpsTo p (.jrE e) s s rel ∧
    JumpsTo p (.ljp x mn) s { s with xpc := x } mn ∧
    (s.main.b ≠ 1 → JumpsTo p (.djnz e) s counted rel) ∧
    (s.main.b = 1 → Runs p (.djnz e) s counted 2)

/-- CALL, RST and LCALL push the address of the next instruction and jump (48_control.md R321, 48_control.md R330, 48_control.md R336). Model's choice: Reading R as IIR is the spec's decision D4 (log 15). Rests on the spec's own choices: opcode bytes and lengths (log 1); which prefix sets there are (log 2); what ALTD does to flags and to SP (log 16), that a prefix without a letter does nothing (log 17); addresses and PC modulo 65536 (log 19); all 8 bits of XPC count (log 24); the operands j and xpc (log 28). -/
def Obligations.CallsPushTheNextAddress : Prop :=
  ∀ (p : Pfx) (s : State) (mn : Word) (x : Byte),
    let ra := fun n : Nat => s.pc + BitVec.ofNat 16 (p.bytes.length + n)
    let pushed := fun n : Nat =>
      { (s.wrMem8 (s.sp - 1) (hiByte (ra n))).wrMem8 (s.sp - 2) (loByte (ra n)) with sp := s.sp - 2 }
    JumpsTo p (.callMn mn) s (pushed 3) mn ∧
    JumpsTo p (.rst .v10) s (pushed 1) (mkWord s.iir 0x20) ∧
    JumpsTo p (.rst .v18) s (pushed 1) (mkWord s.iir 0x30) ∧
    JumpsTo p (.rst .v20) s (pushed 1) (mkWord s.iir 0x40) ∧
    JumpsTo p (.rst .v28) s (pushed 1) (mkWord s.iir 0x50) ∧
    JumpsTo p (.rst .v38) s (pushed 1) (mkWord s.iir 0x70) ∧
    JumpsTo p (.lcall x mn) s
      { ((s.wrMem8 (s.sp - 1) s.xpc).wrMem8 (s.sp - 2) (hiByte (ra 4))).wrMem8 (s.sp - 3) (loByte (ra 4)) with
        sp := s.sp - 3, xpc := x } mn

/-- RET, RET f, LRET and RETI pop what they say (48_control.md R332, 48_control.md R333, 48_control.md R334, 48_control.md R335, 48_control.md R320, 60_exceptions.md R408). Rests on the spec's own choices: opcode bytes and lengths (log 1); which prefix sets there are (log 2); what ALTD does to flags and to SP (log 16), that a prefix without a letter does nothing (log 17); addresses and PC modulo 65536 (log 19); all 8 bits of XPC count (log 24). -/
def Obligations.ReturnsPopTheAddress : Prop :=
  ∀ (p : Pfx) (s : State),
    let top := mkWord (s.mem8 (s.sp + 1)) (s.mem8 s.sp)
    JumpsTo p .ret s { s with sp := s.sp + 2 } top ∧
    (flagZ s.main.f = false → JumpsTo p (.retF .nz) s { s with sp := s.sp + 2 } top) ∧
      (flagZ s.main.f = true → Runs p (.retF .nz) s s 1) ∧
    (flagZ s.main.f = true → JumpsTo p (.retF .z) s { s with sp := s.sp + 2 } top) ∧
      (flagZ s.main.f = false → Runs p (.retF .z) s s 1) ∧
    (flagC s.main.f = false → JumpsTo p (.retF .nc) s { s with sp := s.sp + 2 } top) ∧
      (flagC s.main.f = true → Runs p (.retF .nc) s s 1) ∧
    (flagC s.main.f = true → JumpsTo p (.retF .c) s { s with sp := s.sp + 2 } top) ∧
      (flagC s.main.f = false → Runs p (.retF .c) s s 1) ∧
    (flagLV s.main.f = false → JumpsTo p (.retF .lz) s { s with sp := s.sp + 2 } top) ∧
      (flagLV s.main.f = true → Runs p (.retF .lz) s s 1) ∧
    (flagLV s.main.f = true → JumpsTo p (.retF .lo) s { s with sp := s.sp + 2 } top) ∧
      (flagLV s.main.f = false → Runs p (.retF .lo) s s 1) ∧
    (flagS s.main.f = false → JumpsTo p (.retF .p) s { s with sp := s.sp + 2 } top) ∧
      (flagS s.main.f = true → Runs p (.retF .p) s s 1) ∧
    (flagS s.main.f = true → JumpsTo p (.retF .m) s { s with sp := s.sp + 2 } top) ∧
      (flagS s.main.f = false → Runs p (.retF .m) s s 1) ∧
    JumpsTo p .lret s { s with sp := s.sp + 3, xpc := s.mem8 (s.sp + 2) } top ∧
    exec (p.wrap .reti) s = .next
      { s with
        sp := s.sp + 3
        ip := s.mem8 s.sp
        pc := mkWord (s.mem8 (s.sp + 2)) (s.mem8 (s.sp + 1))
        inhibit := true }

/-- RET after CALL or RST, and LRET after LCALL, come back to the next instruction (48_control.md R321, 48_control.md R330, 48_control.md R332, 48_control.md R333, 48_control.md R336). Rests on the spec's own choices: opcode bytes and lengths (log 1); addresses and PC modulo 65536 (log 19); all 8 bits of XPC count (log 24); the operands j and xpc (log 28). -/
def Obligations.ReturnUndoesCall : Prop :=
  ∀ (s : State) (mn : Word) (x : Byte) (v : Rst),
    (s.phys (s.sp - 1) ≠ s.phys (s.sp - 2) →
      (∃ t u, exec (.callMn mn) s = .next t ∧ t.pc = mn ∧ exec .ret t = .next u ∧ u.pc = s.pc + 3 ∧ u.sp = s.sp ∧
        u.main = s.main) ∧
      ∃ t u, exec (.rst v) s = .next t ∧ exec .ret t = .next u ∧ u.pc = s.pc + 1 ∧ u.sp = s.sp ∧ u.main = s.main) ∧
    (s.translation = .identity →
      ∃ t u, exec (.lcall x mn) s = .next t ∧ t.pc = mn ∧ t.xpc = x ∧ exec .lret t = .next u ∧ u.pc = s.pc + 4 ∧
        u.sp = s.sp ∧ u.xpc = s.xpc ∧ u.main = s.main)

/-- IPSET pushes a priority, IPRES rotates back, PUSH IP, POP IP and RETI move the whole byte (10_state.md R21). -/
def Obligations.IpIsAStackOfPriorities : Prop :=
  ∀ s : State,
    (∃ pc, exec .ipset0 s = .next { s with ip := s.ip.extractLsb' 0 6 ++ 0b00#2, pc := pc, inhibit := true }) ∧
    (∃ pc, exec .ipset1 s = .next { s with ip := s.ip.extractLsb' 0 6 ++ 0b01#2, pc := pc, inhibit := true }) ∧
    (∃ pc, exec .ipset2 s = .next { s with ip := s.ip.extractLsb' 0 6 ++ 0b10#2, pc := pc, inhibit := true }) ∧
    (∃ pc, exec .ipset3 s = .next { s with ip := s.ip.extractLsb' 0 6 ++ 0b11#2, pc := pc, inhibit := true }) ∧
    (∃ pc, exec .ipres s = .next
      { s with ip := s.ip.extractLsb' 0 2 ++ s.ip.extractLsb' 2 6, pc := pc, inhibit := true }) ∧
    (∀ q : BitVec 2, (s.ip.extractLsb' 0 6 ++ q : Byte).extractLsb' 0 2 = q ∧
      (s.ip.extractLsb' 0 6 ++ q : Byte).extractLsb' 2 2 = s.ip.extractLsb' 0 2) ∧
    (s.ip.extractLsb' 0 2 ++ s.ip.extractLsb' 2 6 : Byte).extractLsb' 0 2 = s.ip.extractLsb' 2 2 ∧
    (s.ip.extractLsb' 0 2 ++ s.ip.extractLsb' 2 6 : Byte).extractLsb' 6 2 = s.ip.extractLsb' 0 2 ∧
    s.currentPriority = s.ip.extractLsb' 0 2 ∧
    (∃ pc, exec .pushIP s = .next { s.wrMem8 (s.sp - 1) s.ip with sp := s.sp - 1, pc := pc, inhibit := false }) ∧
    (∃ pc, exec .popIP s = .next { s with ip := s.mem8 s.sp, sp := s.sp + 1, pc := pc, inhibit := true }) ∧
    (∃ t, exec .reti s = .next t ∧ t.ip = s.mem8 s.sp ∧ t.inhibit = true) ∧
    ∀ (i : Instr) (t : State), i.isBase = true → exec i s = .next t → t.ip ≠ s.ip → t.inhibit = true
end

