-- ==== Sys2Proof/Laws/Arith.lean ====
section
/-!
SUPPORT. The results and flags of the arithmetic of spec/00_scope.md R6 as plain bit-vector and integer arithmetic.
-/
namespace Sys2Proof.Machine

theorem sumRes_eq {w : Nat} (a b : BitVec w) (cin : Bool) :
    sumRes a b cin = a + b + BitVec.ofNat w cin.toNat := by
  apply BitVec.eq_of_toNat_eq
  simp [sumRes, BitVec.toNat_add]

theorem diffRes_toNat {w : Nat} (a b : BitVec w) (cin : Bool) :
    (diffRes a b cin).toNat = (((a.toNat : Int) - b.toNat - cin.toNat) % (2 ^ w : Nat)).toNat := by
  simp [diffRes, BitVec.toNat_ofInt]

theorem diffRes_eq {w : Nat} (a b : BitVec w) (cin : Bool) :
    diffRes a b cin = a - b - BitVec.ofNat w cin.toNat := by
  unfold diffRes
  rw [Int.sub_eq_add_neg, Int.sub_eq_add_neg, BitVec.ofInt_add, BitVec.ofInt_add, BitVec.ofInt_neg, BitVec.ofInt_neg,
    BitVec.ofInt_natCast, BitVec.ofInt_natCast, BitVec.ofInt_natCast]
  simp [BitVec.sub_eq_add_neg]

@[simp] theorem sumRes_false {w : Nat} (a b : BitVec w) : sumRes a b false = a + b := by simp [sumRes_eq]

@[simp] theorem diffRes_false {w : Nat} (a b : BitVec w) : diffRes a b false = a - b := by simp [diffRes_eq]

/-- L/V of an 8-bit sum: the exact signed sum does not fit. -/
theorem sumOv_eq8 (a b : Byte) (cin : Bool) :
    sumOv a b cin = overflows 8 (a.toInt + b.toInt + cin.toNat) := by
  have ha := a.isLt
  have hb := b.isLt
  have hc : cin.toNat ≤ 1 := Bool.toNat_le cin
  have hr : (sumRes a b cin).toNat = (a.toNat + b.toNat + cin.toNat) % 256 := by simp [sumRes]
  rw [Bool.eq_iff_iff]
  simp only [sumOv, overflows, BitVec.msb_eq_decide, hr, BitVec.toInt_eq_toNat_cond, Bool.and_eq_true, beq_iff_eq,
    bne_iff_ne, ne_eq, decide_eq_decide, decide_eq_true_eq]
  omega

/-- L/V of a 16-bit sum: the exact signed sum does not fit. -/
theorem sumOv_eq16 (a b : Word) (cin : Bool) :
    sumOv a b cin = overflows 16 (a.toInt + b.toInt + cin.toNat) := by
  have ha := a.isLt
  have hb := b.isLt
  have hc : cin.toNat ≤ 1 := Bool.toNat_le cin
  have hr : (sumRes a b cin).toNat = (a.toNat + b.toNat + cin.toNat) % 65536 := by simp [sumRes]
  rw [Bool.eq_iff_iff]
  simp only [sumOv, overflows, BitVec.msb_eq_decide, hr, BitVec.toInt_eq_toNat_cond, Bool.and_eq_true, beq_iff_eq,
    bne_iff_ne, ne_eq, decide_eq_decide, decide_eq_true_eq]
  omega

/-- L/V of an 8-bit difference: the exact signed difference does not fit. -/
theorem diffOv_eq8 (a b : Byte) (cin : Bool) :
    diffOv a b cin = overflows 8 (a.toInt - b.toInt - cin.toNat) := by
  have ha := a.isLt
  have hb := b.isLt
  have hc : cin.toNat ≤ 1 := Bool.toNat_le cin
  have hr := diffRes_toNat a b cin
  rw [Bool.eq_iff_iff]
  simp only [diffOv, overflows, BitVec.msb_eq_decide, hr, BitVec.toInt_eq_toNat_cond, Bool.and_eq_true, bne_iff_ne, ne_eq,
    decide_eq_decide, decide_eq_true_eq]
  omega

/-- L/V of a 16-bit difference: the exact signed difference does not fit. -/
theorem diffOv_eq16 (a b : Word) (cin : Bool) :
    diffOv a b cin = overflows 16 (a.toInt - b.toInt - cin.toNat) := by
  have ha := a.isLt
  have hb := b.isLt
  have hc : cin.toNat ≤ 1 := Bool.toNat_le cin
  have hr := diffRes_toNat a b cin
  rw [Bool.eq_iff_iff]
  simp only [diffOv, overflows, BitVec.msb_eq_decide, hr, BitVec.toInt_eq_toNat_cond, Bool.and_eq_true, bne_iff_ne, ne_eq,
    decide_eq_decide, decide_eq_true_eq]
  omega

/-- L/V of an 8-bit logical result: one of bits 7:4 is 1. -/
theorem logical_eq8 (v : Byte) : logical v = highNibble v := by
  revert v; decide

/-- L/V of a 16-bit logical result: one of bits 15:12 is 1. -/
theorem logical_eq16 (v : Word) : logical v = highNibble16 v := by
  have hv := v.isLt
  have hx : (v.extractLsb' 12 4).toNat = v.toNat / 4096 % 16 := by
    simp [BitVec.extractLsb'_toNat, Nat.shiftRight_eq_div_pow]
  rw [Bool.eq_iff_iff]
  simp only [logical, highNibble16, decide_eq_true_eq, ne_eq, ← BitVec.toNat_inj]
  show ¬ (v.extractLsb' 12 4).toNat = 0 ↔ _
  rw [hx]
  omega

/-- The results of the shifts and rotates, as the spec writes them (46_shift_rotate.md R282). -/
theorem shiftRes_eq (op : ShiftOp) (v : Byte) (cin : Bool) :
    shiftRes op v cin =
      match op with
      | .rl => v.extractLsb' 0 7 ++ BitVec.ofBool cin
      | .rlc => v.extractLsb' 0 7 ++ BitVec.ofBool (v.getLsbD 7)
      | .rr => BitVec.ofBool cin ++ v.extractLsb' 1 7
      | .rrc => BitVec.ofBool (v.getLsbD 0) ++ v.extractLsb' 1 7
      | .sla => v.extractLsb' 0 7 ++ 0#1
      | .sra => BitVec.ofBool (v.getLsbD 7) ++ v.extractLsb' 1 7
      | .srl => 0#1 ++ v.extractLsb' 1 7 := by
  cases op <;> cases cin <;> revert v <;> decide

/-- `RL` of a word through the carry (43_arith16.md R206). -/
theorem shiftRes_rl16 (v : Word) (cin : Bool) : shiftRes .rl v cin = v.extractLsb' 0 15 ++ BitVec.ofBool cin := by
  apply BitVec.eq_of_getLsbD_eq
  intro i hi
  rw [BitVec.getLsbD_append]
  by_cases h : i = 0
  · subst h; cases cin <;> simp [shiftRes, ShiftOp.isLeft, shiftIn]
  · cases cin <;>
    simp [shiftRes, ShiftOp.isLeft, shiftIn, h, hi, show i - 1 < 15 by omega, BitVec.getLsbD_eq_getElem,
      show i - 1 < 16 by omega]

/-- `RR` of a word through the carry (43_arith16.md R207 to R210). -/
theorem shiftRes_rr16 (v : Word) (cin : Bool) : shiftRes .rr v cin = BitVec.ofBool cin ++ v.extractLsb' 1 15 := by
  apply BitVec.eq_of_getLsbD_eq
  intro i hi
  rw [BitVec.getLsbD_append]
  by_cases h : i = 15
  · subst h; cases cin <;> simp [shiftRes, ShiftOp.isLeft, shiftIn]
  · have h15 : (32768#16).getLsbD i = false := by
      have : i < 15 := by omega
      revert h hi this
      revert i
      decide
    cases cin <;> simp [shiftRes, ShiftOp.isLeft, shiftIn, show i < 15 by omega, h15]

end Sys2Proof.Machine
end

