-- ==== Sys2Proof/Laws/Decode.lean ====
section
/-!
SUPPORT. The field codes of spec/00_scope.md R8 and the codes' registers are inverse to each other, and operand bytes
are read back.
-/
namespace Sys2Proof

@[simp] theorem R8.ofCode_code (r : R8) : R8.ofCode r.code = some r := by cases r <;> rfl

theorem R8.code_of_ofCode (k : BitVec 3) (r : R8) (h : R8.ofCode k = some r) : r.code = k := by
  revert k; cases r <;> decide

theorem R8.ofCode_none (k : BitVec 3) : R8.ofCode k = none ↔ k = 0b110 := by revert k; decide

@[simp] theorem DDa.ofCode_code (p : DDa) : DDa.ofCode p.code = some p := by cases p <;> rfl

theorem DDa.code_of_ofCode (k : BitVec 2) (p : DDa) (h : DDa.ofCode k = some p) : p.code = k := by
  revert k; cases p <;> decide

theorem DDa.ofCode_none (k : BitVec 2) : DDa.ofCode k = none ↔ k = 0b11 := by revert k; decide

@[simp] theorem SS.ofCode_code (x : SS) : SS.ofCode x.code = x := by cases x <;> rfl

@[simp] theorem SS.code_ofCode (k : BitVec 2) : (SS.ofCode k).code = k := by revert k; decide

@[simp] theorem XX.ofCode_code (x : XX) : XX.ofCode x.code = x := by cases x <;> rfl

@[simp] theorem XX.code_ofCode (k : BitVec 2) : (XX.ofCode k).code = k := by revert k; decide

@[simp] theorem YY.ofCode_code (x : YY) : YY.ofCode x.code = x := by cases x <;> rfl

@[simp] theorem YY.code_ofCode (k : BitVec 2) : (YY.ofCode k).code = k := by revert k; decide

@[simp] theorem ZZ.ofCode_code (x : ZZ) : ZZ.ofCode x.code = x := by cases x <;> rfl

@[simp] theorem ZZ.code_ofCode (k : BitVec 2) : (ZZ.ofCode k).code = k := by revert k; decide

@[simp] theorem CondF.ofCode_code (x : CondF) : CondF.ofCode x.code = x := by cases x <;> rfl

@[simp] theorem CondF.code_ofCode (k : BitVec 3) : (CondF.ofCode k).code = k := by revert k; decide

@[simp] theorem CondCC.ofCode_code (x : CondCC) : CondCC.ofCode x.code = x := by cases x <;> rfl

@[simp] theorem CondCC.code_ofCode (k : BitVec 2) : (CondCC.ofCode k).code = k := by revert k; decide

@[simp] theorem operandWord_halves (k : Word → Instr) (w : Word) (rest : List Byte) :
    operandWord k (loByte w :: hiByte w :: rest) = .ok (k w, rest) := by
  simp only [operandWord, mkWord_hi_lo]

end Sys2Proof
end

