-- ==== Sys2Proof/Laws/Flags.lean ====
section
/-!
SUPPORT. What writing flags does to a flag register, and what the flag computations are as arithmetic.
-/
namespace Sys2Proof.Machine

theorem putFlag_getLsbD (f : Byte) (k j : Nat) (v : Option Bool) (hk : k < 8) (hj : j < 8) :
    (putFlag f k v).getLsbD j = if j = k then v.getD (f.getLsbD k) else f.getLsbD j := by
  rcases v with _ | _ | _
  · by_cases h : j = k <;> simp [putFlag, h]
  · by_cases h : j = k
    · subst h; simp [putFlag, hj]
    · simp only [putFlag, BitVec.getLsbD_and, BitVec.getLsbD_not, BitVec.getLsbD_shiftLeft, h, if_false]
      by_cases h2 : j < k
      · simp [hj, h2]
      · have : j - k ≠ 0 := by omega
        simp [hj, h2, this, BitVec.getLsbD_one]
  · by_cases h : j = k
    · subst h; simp [putFlag, hj]
    · simp only [putFlag, BitVec.getLsbD_or, BitVec.getLsbD_shiftLeft, h, if_false]
      by_cases h2 : j < k
      · simp [h2]
      · have : j - k ≠ 0 := by omega
        simp [h2, this, BitVec.getLsbD_one]

@[simp] theorem flagS_apply (u : FlagUpd) (f : Byte) : flagS (u.apply f) = u.s.getD (flagS f) := by
  simp only [flagS, FlagUpd.apply, Config.sBit, Config.zBit, Config.lvBit, Config.cBit]
  repeat rw [putFlag_getLsbD _ _ _ _ (by omega) (by omega)]
  simp

@[simp] theorem flagZ_apply (u : FlagUpd) (f : Byte) : flagZ (u.apply f) = u.z.getD (flagZ f) := by
  simp only [flagZ, FlagUpd.apply, Config.sBit, Config.zBit, Config.lvBit, Config.cBit]
  repeat rw [putFlag_getLsbD _ _ _ _ (by omega) (by omega)]
  simp

@[simp] theorem flagLV_apply (u : FlagUpd) (f : Byte) : flagLV (u.apply f) = u.lv.getD (flagLV f) := by
  simp only [flagLV, FlagUpd.apply, Config.sBit, Config.zBit, Config.lvBit, Config.cBit]
  repeat rw [putFlag_getLsbD _ _ _ _ (by omega) (by omega)]
  simp

@[simp] theorem flagC_apply (u : FlagUpd) (f : Byte) : flagC (u.apply f) = u.c.getD (flagC f) := by
  simp only [flagC, FlagUpd.apply, Config.sBit, Config.zBit, Config.lvBit, Config.cBit]
  repeat rw [putFlag_getLsbD _ _ _ _ (by omega) (by omega)]
  simp

/-- The bits of F without a flag keep their value. -/
theorem unused_apply (u : FlagUpd) (f : Byte) (j : Nat) (h : j = 1 ∨ j = 3 ∨ j = 4 ∨ j = 5) :
    (u.apply f).getLsbD j = f.getLsbD j := by
  simp only [FlagUpd.apply, Config.sBit, Config.zBit, Config.lvBit, Config.cBit]
  repeat rw [putFlag_getLsbD _ _ _ _ (by omega) (by omega)]
  rcases h with rfl | rfl | rfl | rfl <;> simp

/-- A flag register is determined by its flags and its four other bits. -/
theorem flags_ext {f g : Byte} (hs : flagS f = flagS g) (hz : flagZ f = flagZ g) (hv : flagLV f = flagLV g)
    (hc : flagC f = flagC g) (hu : ∀ j, j = 1 ∨ j = 3 ∨ j = 4 ∨ j = 5 → f.getLsbD j = g.getLsbD j) : f = g := by
  apply BitVec.eq_of_getLsbD_eq
  intro i hi
  have : i = 0 ∨ i = 1 ∨ i = 2 ∨ i = 3 ∨ i = 4 ∨ i = 5 ∨ i = 6 ∨ i = 7 := by omega
  rcases this with rfl | rfl | rfl | rfl | rfl | rfl | rfl | rfl
  · exact hc
  · exact hu 1 (by simp)
  · exact hv
  · exact hu 3 (by simp)
  · exact hu 4 (by simp)
  · exact hu 5 (by simp)
  · exact hz
  · exact hs

end Sys2Proof.Machine
end

