-- ==== Sys2Proof/Laws/State.lean ====
section
/-!
SUPPORT. One lemma per field per update of the state, each true by `rfl`, so that no proof unfolds a record update.
-/
namespace Sys2Proof.Machine

variable (s : State)

@[simp] theorem State.setIX_main (v : Word) : (s.setIX v).main = s.main := rfl
@[simp] theorem State.setIX_alt (v : Word) : (s.setIX v).alt = s.alt := rfl
@[simp] theorem State.setIX_ix (v : Word) : (s.setIX v).ix = v := rfl
@[simp] theorem State.setIX_iy (v : Word) : (s.setIX v).iy = s.iy := rfl
@[simp] theorem State.setIX_sp (v : Word) : (s.setIX v).sp = s.sp := rfl
@[simp] theorem State.setIX_pc (v : Word) : (s.setIX v).pc = s.pc := rfl
@[simp] theorem State.setIX_xpc (v : Word) : (s.setIX v).xpc = s.xpc := rfl
@[simp] theorem State.setIX_ip (v : Word) : (s.setIX v).ip = s.ip := rfl
@[simp] theorem State.setIX_iir (v : Word) : (s.setIX v).iir = s.iir := rfl
@[simp] theorem State.setIX_eir (v : Word) : (s.setIX v).eir = s.eir := rfl
@[simp] theorem State.setIX_mem (v : Word) : (s.setIX v).mem = s.mem := rfl
@[simp] theorem State.setIX_inhibit (v : Word) : (s.setIX v).inhibit = s.inhibit := rfl
@[simp] theorem State.setIX_ioWrites (v : Word) : (s.setIX v).ioWrites = s.ioWrites := rfl
@[simp] theorem State.setIX_ioReads (v : Word) : (s.setIX v).ioReads = s.ioReads := rfl
@[simp] theorem State.setIX_irq (v : Word) : (s.setIX v).irq = s.irq := rfl
@[simp] theorem State.setIX_translation (v : Word) : (s.setIX v).translation = s.translation := rfl
@[simp] theorem State.setIX_draws (v : Word) : (s.setIX v).draws = s.draws := rfl

@[simp] theorem State.setIY_main (v : Word) : (s.setIY v).main = s.main := rfl
@[simp] theorem State.setIY_alt (v : Word) : (s.setIY v).alt = s.alt := rfl
@[simp] theorem State.setIY_ix (v : Word) : (s.setIY v).ix = s.ix := rfl
@[simp] theorem State.setIY_iy (v : Word) : (s.setIY v).iy = v := rfl
@[simp] theorem State.setIY_sp (v : Word) : (s.setIY v).sp = s.sp := rfl
@[simp] theorem State.setIY_pc (v : Word) : (s.setIY v).pc = s.pc := rfl
@[simp] theorem State.setIY_xpc (v : Word) : (s.setIY v).xpc = s.xpc := rfl
@[simp] theorem State.setIY_ip (v : Word) : (s.setIY v).ip = s.ip := rfl
@[simp] theorem State.setIY_iir (v : Word) : (s.setIY v).iir = s.iir := rfl
@[simp] theorem State.setIY_eir (v : Word) : (s.setIY v).eir = s.eir := rfl
@[simp] theorem State.setIY_mem (v : Word) : (s.setIY v).mem = s.mem := rfl
@[simp] theorem State.setIY_inhibit (v : Word) : (s.setIY v).inhibit = s.inhibit := rfl
@[simp] theorem State.setIY_ioWrites (v : Word) : (s.setIY v).ioWrites = s.ioWrites := rfl
@[simp] theorem State.setIY_ioReads (v : Word) : (s.setIY v).ioReads = s.ioReads := rfl
@[simp] theorem State.setIY_irq (v : Word) : (s.setIY v).irq = s.irq := rfl
@[simp] theorem State.setIY_translation (v : Word) : (s.setIY v).translation = s.translation := rfl
@[simp] theorem State.setIY_draws (v : Word) : (s.setIY v).draws = s.draws := rfl

@[simp] theorem State.setSP_main (v : Word) : (s.setSP v).main = s.main := rfl
@[simp] theorem State.setSP_alt (v : Word) : (s.setSP v).alt = s.alt := rfl
@[simp] theorem State.setSP_ix (v : Word) : (s.setSP v).ix = s.ix := rfl
@[simp] theorem State.setSP_iy (v : Word) : (s.setSP v).iy = s.iy := rfl
@[simp] theorem State.setSP_sp (v : Word) : (s.setSP v).sp = v := rfl
@[simp] theorem State.setSP_pc (v : Word) : (s.setSP v).pc = s.pc := rfl
@[simp] theorem State.setSP_xpc (v : Word) : (s.setSP v).xpc = s.xpc := rfl
@[simp] theorem State.setSP_ip (v : Word) : (s.setSP v).ip = s.ip := rfl
@[simp] theorem State.setSP_iir (v : Word) : (s.setSP v).iir = s.iir := rfl
@[simp] theorem State.setSP_eir (v : Word) : (s.setSP v).eir = s.eir := rfl
@[simp] theorem State.setSP_mem (v : Word) : (s.setSP v).mem = s.mem := rfl
@[simp] theorem State.setSP_inhibit (v : Word) : (s.setSP v).inhibit = s.inhibit := rfl
@[simp] theorem State.setSP_ioWrites (v : Word) : (s.setSP v).ioWrites = s.ioWrites := rfl
@[simp] theorem State.setSP_ioReads (v : Word) : (s.setSP v).ioReads = s.ioReads := rfl
@[simp] theorem State.setSP_irq (v : Word) : (s.setSP v).irq = s.irq := rfl
@[simp] theorem State.setSP_translation (v : Word) : (s.setSP v).translation = s.translation := rfl
@[simp] theorem State.setSP_draws (v : Word) : (s.setSP v).draws = s.draws := rfl

@[simp] theorem State.setXPC_main (v : Byte) : (s.setXPC v).main = s.main := rfl
@[simp] theorem State.setXPC_alt (v : Byte) : (s.setXPC v).alt = s.alt := rfl
@[simp] theorem State.setXPC_ix (v : Byte) : (s.setXPC v).ix = s.ix := rfl
@[simp] theorem State.setXPC_iy (v : Byte) : (s.setXPC v).iy = s.iy := rfl
@[simp] theorem State.setXPC_sp (v : Byte) : (s.setXPC v).sp = s.sp := rfl
@[simp] theorem State.setXPC_pc (v : Byte) : (s.setXPC v).pc = s.pc := rfl
@[simp] theorem State.setXPC_xpc (v : Byte) : (s.setXPC v).xpc = v := rfl
@[simp] theorem State.setXPC_ip (v : Byte) : (s.setXPC v).ip = s.ip := rfl
@[simp] theorem State.setXPC_iir (v : Byte) : (s.setXPC v).iir = s.iir := rfl
@[simp] theorem State.setXPC_eir (v : Byte) : (s.setXPC v).eir = s.eir := rfl
@[simp] theorem State.setXPC_mem (v : Byte) : (s.setXPC v).mem = s.mem := rfl
@[simp] theorem State.setXPC_inhibit (v : Byte) : (s.setXPC v).inhibit = s.inhibit := rfl
@[simp] theorem State.setXPC_ioWrites (v : Byte) : (s.setXPC v).ioWrites = s.ioWrites := rfl
@[simp] theorem State.setXPC_ioReads (v : Byte) : (s.setXPC v).ioReads = s.ioReads := rfl
@[simp] theorem State.setXPC_irq (v : Byte) : (s.setXPC v).irq = s.irq := rfl
@[simp] theorem State.setXPC_translation (v : Byte) : (s.setXPC v).translation = s.translation := rfl
@[simp] theorem State.setXPC_draws (v : Byte) : (s.setXPC v).draws = s.draws := rfl

@[simp] theorem State.setIP_main (v : Byte) : (s.setIP v).main = s.main := rfl
@[simp] theorem State.setIP_alt (v : Byte) : (s.setIP v).alt = s.alt := rfl
@[simp] theorem State.setIP_ix (v : Byte) : (s.setIP v).ix = s.ix := rfl
@[simp] theorem State.setIP_iy (v : Byte) : (s.setIP v).iy = s.iy := rfl
@[simp] theorem State.setIP_sp (v : Byte) : (s.setIP v).sp = s.sp := rfl
@[simp] theorem State.setIP_pc (v : Byte) : (s.setIP v).pc = s.pc := rfl
@[simp] theorem State.setIP_xpc (v : Byte) : (s.setIP v).xpc = s.xpc := rfl
@[simp] theorem State.setIP_ip (v : Byte) : (s.setIP v).ip = v := rfl
@[simp] theorem State.setIP_iir (v : Byte) : (s.setIP v).iir = s.iir := rfl
@[simp] theorem State.setIP_eir (v : Byte) : (s.setIP v).eir = s.eir := rfl
@[simp] theorem State.setIP_mem (v : Byte) : (s.setIP v).mem = s.mem := rfl
@[simp] theorem State.setIP_inhibit (v : Byte) : (s.setIP v).inhibit = s.inhibit := rfl
@[simp] theorem State.setIP_ioWrites (v : Byte) : (s.setIP v).ioWrites = s.ioWrites := rfl
@[simp] theorem State.setIP_ioReads (v : Byte) : (s.setIP v).ioReads = s.ioReads := rfl
@[simp] theorem State.setIP_irq (v : Byte) : (s.setIP v).irq = s.irq := rfl
@[simp] theorem State.setIP_translation (v : Byte) : (s.setIP v).translation = s.translation := rfl
@[simp] theorem State.setIP_draws (v : Byte) : (s.setIP v).draws = s.draws := rfl

@[simp] theorem State.setIIR_main (v : Byte) : (s.setIIR v).main = s.main := rfl
@[simp] theorem State.setIIR_alt (v : Byte) : (s.setIIR v).alt = s.alt := rfl
@[simp] theorem State.setIIR_ix (v : Byte) : (s.setIIR v).ix = s.ix := rfl
@[simp] theorem State.setIIR_iy (v : Byte) : (s.setIIR v).iy = s.iy := rfl
@[simp] theorem State.setIIR_sp (v : Byte) : (s.setIIR v).sp = s.sp := rfl
@[simp] theorem State.setIIR_pc (v : Byte) : (s.setIIR v).pc = s.pc := rfl
@[simp] theorem State.setIIR_xpc (v : Byte) : (s.setIIR v).xpc = s.xpc := rfl
@[simp] theorem State.setIIR_ip (v : Byte) : (s.setIIR v).ip = s.ip := rfl
@[simp] theorem State.setIIR_iir (v : Byte) : (s.setIIR v).iir = v := rfl
@[simp] theorem State.setIIR_eir (v : Byte) : (s.setIIR v).eir = s.eir := rfl
@[simp] theorem State.setIIR_mem (v : Byte) : (s.setIIR v).mem = s.mem := rfl
@[simp] theorem State.setIIR_inhibit (v : Byte) : (s.setIIR v).inhibit = s.inhibit := rfl
@[simp] theorem State.setIIR_ioWrites (v : Byte) : (s.setIIR v).ioWrites = s.ioWrites := rfl
@[simp] theorem State.setIIR_ioReads (v : Byte) : (s.setIIR v).ioReads = s.ioReads := rfl
@[simp] theorem State.setIIR_irq (v : Byte) : (s.setIIR v).irq = s.irq := rfl
@[simp] theorem State.setIIR_translation (v : Byte) : (s.setIIR v).translation = s.translation := rfl
@[simp] theorem State.setIIR_draws (v : Byte) : (s.setIIR v).draws = s.draws := rfl

@[simp] theorem State.setEIR_main (v : Byte) : (s.setEIR v).main = s.main := rfl
@[simp] theorem State.setEIR_alt (v : Byte) : (s.setEIR v).alt = s.alt := rfl
@[simp] theorem State.setEIR_ix (v : Byte) : (s.setEIR v).ix = s.ix := rfl
@[simp] theorem State.setEIR_iy (v : Byte) : (s.setEIR v).iy = s.iy := rfl
@[simp] theorem State.setEIR_sp (v : Byte) : (s.setEIR v).sp = s.sp := rfl
@[simp] theorem State.setEIR_pc (v : Byte) : (s.setEIR v).pc = s.pc := rfl
@[simp] theorem State.setEIR_xpc (v : Byte) : (s.setEIR v).xpc = s.xpc := rfl
@[simp] theorem State.setEIR_ip (v : Byte) : (s.setEIR v).ip = s.ip := rfl
@[simp] theorem State.setEIR_iir (v : Byte) : (s.setEIR v).iir = s.iir := rfl
@[simp] theorem State.setEIR_eir (v : Byte) : (s.setEIR v).eir = v := rfl
@[simp] theorem State.setEIR_mem (v : Byte) : (s.setEIR v).mem = s.mem := rfl
@[simp] theorem State.setEIR_inhibit (v : Byte) : (s.setEIR v).inhibit = s.inhibit := rfl
@[simp] theorem State.setEIR_ioWrites (v : Byte) : (s.setEIR v).ioWrites = s.ioWrites := rfl
@[simp] theorem State.setEIR_ioReads (v : Byte) : (s.setEIR v).ioReads = s.ioReads := rfl
@[simp] theorem State.setEIR_irq (v : Byte) : (s.setEIR v).irq = s.irq := rfl
@[simp] theorem State.setEIR_translation (v : Byte) : (s.setEIR v).translation = s.translation := rfl
@[simp] theorem State.setEIR_draws (v : Byte) : (s.setEIR v).draws = s.draws := rfl

@[simp] theorem State.setMem_main (m : Memory) : (s.setMem m).main = s.main := rfl
@[simp] theorem State.setMem_alt (m : Memory) : (s.setMem m).alt = s.alt := rfl
@[simp] theorem State.setMem_ix (m : Memory) : (s.setMem m).ix = s.ix := rfl
@[simp] theorem State.setMem_iy (m : Memory) : (s.setMem m).iy = s.iy := rfl
@[simp] theorem State.setMem_sp (m : Memory) : (s.setMem m).sp = s.sp := rfl
@[simp] theorem State.setMem_pc (m : Memory) : (s.setMem m).pc = s.pc := rfl
@[simp] theorem State.setMem_xpc (m : Memory) : (s.setMem m).xpc = s.xpc := rfl
@[simp] theorem State.setMem_ip (m : Memory) : (s.setMem m).ip = s.ip := rfl
@[simp] theorem State.setMem_iir (m : Memory) : (s.setMem m).iir = s.iir := rfl
@[simp] theorem State.setMem_eir (m : Memory) : (s.setMem m).eir = s.eir := rfl
@[simp] theorem State.setMem_mem (m : Memory) : (s.setMem m).mem = m := rfl
@[simp] theorem State.setMem_inhibit (m : Memory) : (s.setMem m).inhibit = s.inhibit := rfl
@[simp] theorem State.setMem_ioWrites (m : Memory) : (s.setMem m).ioWrites = s.ioWrites := rfl
@[simp] theorem State.setMem_ioReads (m : Memory) : (s.setMem m).ioReads = s.ioReads := rfl
@[simp] theorem State.setMem_irq (m : Memory) : (s.setMem m).irq = s.irq := rfl
@[simp] theorem State.setMem_translation (m : Memory) : (s.setMem m).translation = s.translation := rfl
@[simp] theorem State.setMem_draws (m : Memory) : (s.setMem m).draws = s.draws := rfl

@[simp] theorem State.logIo_main (w : IoWrite) : (s.logIo w).main = s.main := rfl
@[simp] theorem State.logIo_alt (w : IoWrite) : (s.logIo w).alt = s.alt := rfl
@[simp] theorem State.logIo_ix (w : IoWrite) : (s.logIo w).ix = s.ix := rfl
@[simp] theorem State.logIo_iy (w : IoWrite) : (s.logIo w).iy = s.iy := rfl
@[simp] theorem State.logIo_sp (w : IoWrite) : (s.logIo w).sp = s.sp := rfl
@[simp] theorem State.logIo_pc (w : IoWrite) : (s.logIo w).pc = s.pc := rfl
@[simp] theorem State.logIo_xpc (w : IoWrite) : (s.logIo w).xpc = s.xpc := rfl
@[simp] theorem State.logIo_ip (w : IoWrite) : (s.logIo w).ip = s.ip := rfl
@[simp] theorem State.logIo_iir (w : IoWrite) : (s.logIo w).iir = s.iir := rfl
@[simp] theorem State.logIo_eir (w : IoWrite) : (s.logIo w).eir = s.eir := rfl
@[simp] theorem State.logIo_mem (w : IoWrite) : (s.logIo w).mem = s.mem := rfl
@[simp] theorem State.logIo_inhibit (w : IoWrite) : (s.logIo w).inhibit = s.inhibit := rfl
@[simp] theorem State.logIo_ioWrites (w : IoWrite) : (s.logIo w).ioWrites = s.ioWrites ++ [w] := rfl
@[simp] theorem State.logIo_ioReads (w : IoWrite) : (s.logIo w).ioReads = s.ioReads := rfl
@[simp] theorem State.logIo_irq (w : IoWrite) : (s.logIo w).irq = s.irq := rfl
@[simp] theorem State.logIo_translation (w : IoWrite) : (s.logIo w).translation = s.translation := rfl
@[simp] theorem State.logIo_draws (w : IoWrite) : (s.logIo w).draws = s.draws := rfl

@[simp] theorem State.countReads_main (n : Nat) : (s.countReads n).main = s.main := rfl
@[simp] theorem State.countReads_alt (n : Nat) : (s.countReads n).alt = s.alt := rfl
@[simp] theorem State.countReads_ix (n : Nat) : (s.countReads n).ix = s.ix := rfl
@[simp] theorem State.countReads_iy (n : Nat) : (s.countReads n).iy = s.iy := rfl
@[simp] theorem State.countReads_sp (n : Nat) : (s.countReads n).sp = s.sp := rfl
@[simp] theorem State.countReads_pc (n : Nat) : (s.countReads n).pc = s.pc := rfl
@[simp] theorem State.countReads_xpc (n : Nat) : (s.countReads n).xpc = s.xpc := rfl
@[simp] theorem State.countReads_ip (n : Nat) : (s.countReads n).ip = s.ip := rfl
@[simp] theorem State.countReads_iir (n : Nat) : (s.countReads n).iir = s.iir := rfl
@[simp] theorem State.countReads_eir (n : Nat) : (s.countReads n).eir = s.eir := rfl
@[simp] theorem State.countReads_mem (n : Nat) : (s.countReads n).mem = s.mem := rfl
@[simp] theorem State.countReads_inhibit (n : Nat) : (s.countReads n).inhibit = s.inhibit := rfl
@[simp] theorem State.countReads_ioWrites (n : Nat) : (s.countReads n).ioWrites = s.ioWrites := rfl
@[simp] theorem State.countReads_ioReads (n : Nat) : (s.countReads n).ioReads = s.ioReads + n := rfl
@[simp] theorem State.countReads_irq (n : Nat) : (s.countReads n).irq = s.irq := rfl
@[simp] theorem State.countReads_translation (n : Nat) : (s.countReads n).translation = s.translation := rfl
@[simp] theorem State.countReads_draws (n : Nat) : (s.countReads n).draws = s.draws := rfl

@[simp] theorem State.countDraw_main : (s.countDraw).main = s.main := rfl
@[simp] theorem State.countDraw_alt : (s.countDraw).alt = s.alt := rfl
@[simp] theorem State.countDraw_ix : (s.countDraw).ix = s.ix := rfl
@[simp] theorem State.countDraw_iy : (s.countDraw).iy = s.iy := rfl
@[simp] theorem State.countDraw_sp : (s.countDraw).sp = s.sp := rfl
@[simp] theorem State.countDraw_pc : (s.countDraw).pc = s.pc := rfl
@[simp] theorem State.countDraw_xpc : (s.countDraw).xpc = s.xpc := rfl
@[simp] theorem State.countDraw_ip : (s.countDraw).ip = s.ip := rfl
@[simp] theorem State.countDraw_iir : (s.countDraw).iir = s.iir := rfl
@[simp] theorem State.countDraw_eir : (s.countDraw).eir = s.eir := rfl
@[simp] theorem State.countDraw_mem : (s.countDraw).mem = s.mem := rfl
@[simp] theorem State.countDraw_inhibit : (s.countDraw).inhibit = s.inhibit := rfl
@[simp] theorem State.countDraw_ioWrites : (s.countDraw).ioWrites = s.ioWrites := rfl
@[simp] theorem State.countDraw_ioReads : (s.countDraw).ioReads = s.ioReads := rfl
@[simp] theorem State.countDraw_irq : (s.countDraw).irq = s.irq := rfl
@[simp] theorem State.countDraw_translation : (s.countDraw).translation = s.translation := rfl
@[simp] theorem State.countDraw_draws : (s.countDraw).draws = s.draws + 1 := rfl

@[simp] theorem State.finish_main (t : Word) (b : Bool) : (s.finish t b).main = s.main := rfl
@[simp] theorem State.finish_alt (t : Word) (b : Bool) : (s.finish t b).alt = s.alt := rfl
@[simp] theorem State.finish_ix (t : Word) (b : Bool) : (s.finish t b).ix = s.ix := rfl
@[simp] theorem State.finish_iy (t : Word) (b : Bool) : (s.finish t b).iy = s.iy := rfl
@[simp] theorem State.finish_sp (t : Word) (b : Bool) : (s.finish t b).sp = s.sp := rfl
@[simp] theorem State.finish_pc (t : Word) (b : Bool) : (s.finish t b).pc = t := rfl
@[simp] theorem State.finish_xpc (t : Word) (b : Bool) : (s.finish t b).xpc = s.xpc := rfl
@[simp] theorem State.finish_ip (t : Word) (b : Bool) : (s.finish t b).ip = s.ip := rfl
@[simp] theorem State.finish_iir (t : Word) (b : Bool) : (s.finish t b).iir = s.iir := rfl
@[simp] theorem State.finish_eir (t : Word) (b : Bool) : (s.finish t b).eir = s.eir := rfl
@[simp] theorem State.finish_mem (t : Word) (b : Bool) : (s.finish t b).mem = s.mem := rfl
@[simp] theorem State.finish_inhibit (t : Word) (b : Bool) : (s.finish t b).inhibit = b := rfl
@[simp] theorem State.finish_ioWrites (t : Word) (b : Bool) : (s.finish t b).ioWrites = s.ioWrites := rfl
@[simp] theorem State.finish_ioReads (t : Word) (b : Bool) : (s.finish t b).ioReads = s.ioReads := rfl
@[simp] theorem State.finish_irq (t : Word) (b : Bool) : (s.finish t b).irq = s.irq := rfl
@[simp] theorem State.finish_translation (t : Word) (b : Bool) : (s.finish t b).translation = s.translation := rfl
@[simp] theorem State.finish_draws (t : Word) (b : Bool) : (s.finish t b).draws = s.draws := rfl

@[simp] theorem State.setIrq_main (q : List (Option IrqRequest)) : (s.setIrq q).main = s.main := rfl
@[simp] theorem State.setIrq_alt (q : List (Option IrqRequest)) : (s.setIrq q).alt = s.alt := rfl
@[simp] theorem State.setIrq_ix (q : List (Option IrqRequest)) : (s.setIrq q).ix = s.ix := rfl
@[simp] theorem State.setIrq_iy (q : List (Option IrqRequest)) : (s.setIrq q).iy = s.iy := rfl
@[simp] theorem State.setIrq_sp (q : List (Option IrqRequest)) : (s.setIrq q).sp = s.sp := rfl
@[simp] theorem State.setIrq_pc (q : List (Option IrqRequest)) : (s.setIrq q).pc = s.pc := rfl
@[simp] theorem State.setIrq_xpc (q : List (Option IrqRequest)) : (s.setIrq q).xpc = s.xpc := rfl
@[simp] theorem State.setIrq_ip (q : List (Option IrqRequest)) : (s.setIrq q).ip = s.ip := rfl
@[simp] theorem State.setIrq_iir (q : List (Option IrqRequest)) : (s.setIrq q).iir = s.iir := rfl
@[simp] theorem State.setIrq_eir (q : List (Option IrqRequest)) : (s.setIrq q).eir = s.eir := rfl
@[simp] theorem State.setIrq_mem (q : List (Option IrqRequest)) : (s.setIrq q).mem = s.mem := rfl
@[simp] theorem State.setIrq_inhibit (q : List (Option IrqRequest)) : (s.setIrq q).inhibit = s.inhibit := rfl
@[simp] theorem State.setIrq_ioWrites (q : List (Option IrqRequest)) : (s.setIrq q).ioWrites = s.ioWrites := rfl
@[simp] theorem State.setIrq_ioReads (q : List (Option IrqRequest)) : (s.setIrq q).ioReads = s.ioReads := rfl
@[simp] theorem State.setIrq_irq (q : List (Option IrqRequest)) : (s.setIrq q).irq = q := rfl
@[simp] theorem State.setIrq_translation (q : List (Option IrqRequest)) : (s.setIrq q).translation = s.translation := rfl
@[simp] theorem State.setIrq_draws (q : List (Option IrqRequest)) : (s.setIrq q).draws = s.draws := rfl

@[simp] theorem State.updBank_main (x : Bool) (g : Bank → Bank) : (s.updBank x g).main = if x then s.main else g s.main := rfl
@[simp] theorem State.updBank_alt (x : Bool) (g : Bank → Bank) : (s.updBank x g).alt = if x then g s.alt else s.alt := rfl
@[simp] theorem State.updBank_ix (x : Bool) (g : Bank → Bank) : (s.updBank x g).ix = s.ix := rfl
@[simp] theorem State.updBank_iy (x : Bool) (g : Bank → Bank) : (s.updBank x g).iy = s.iy := rfl
@[simp] theorem State.updBank_sp (x : Bool) (g : Bank → Bank) : (s.updBank x g).sp = s.sp := rfl
@[simp] theorem State.updBank_pc (x : Bool) (g : Bank → Bank) : (s.updBank x g).pc = s.pc := rfl
@[simp] theorem State.updBank_xpc (x : Bool) (g : Bank → Bank) : (s.updBank x g).xpc = s.xpc := rfl
@[simp] theorem State.updBank_ip (x : Bool) (g : Bank → Bank) : (s.updBank x g).ip = s.ip := rfl
@[simp] theorem State.updBank_iir (x : Bool) (g : Bank → Bank) : (s.updBank x g).iir = s.iir := rfl
@[simp] theorem State.updBank_eir (x : Bool) (g : Bank → Bank) : (s.updBank x g).eir = s.eir := rfl
@[simp] theorem State.updBank_mem (x : Bool) (g : Bank → Bank) : (s.updBank x g).mem = s.mem := rfl
@[simp] theorem State.updBank_inhibit (x : Bool) (g : Bank → Bank) : (s.updBank x g).inhibit = s.inhibit := rfl
@[simp] theorem State.updBank_ioWrites (x : Bool) (g : Bank → Bank) : (s.updBank x g).ioWrites = s.ioWrites := rfl
@[simp] theorem State.updBank_ioReads (x : Bool) (g : Bank → Bank) : (s.updBank x g).ioReads = s.ioReads := rfl
@[simp] theorem State.updBank_irq (x : Bool) (g : Bank → Bank) : (s.updBank x g).irq = s.irq := rfl
@[simp] theorem State.updBank_translation (x : Bool) (g : Bank → Bank) : (s.updBank x g).translation = s.translation := rfl
@[simp] theorem State.updBank_draws (x : Bool) (g : Bank → Bank) : (s.updBank x g).draws = s.draws := rfl

@[simp] theorem State.physWrite_mem (p : Phys) (v : Byte) :
    (s.physWrite p v).mem = Memory.write s.mem p.toNat v := rfl
@[simp] theorem State.physWrite_main (p : Phys) (v : Byte) : (s.physWrite p v).main = s.main := rfl
@[simp] theorem State.physWrite_alt (p : Phys) (v : Byte) : (s.physWrite p v).alt = s.alt := rfl
@[simp] theorem State.physWrite_ix (p : Phys) (v : Byte) : (s.physWrite p v).ix = s.ix := rfl
@[simp] theorem State.physWrite_iy (p : Phys) (v : Byte) : (s.physWrite p v).iy = s.iy := rfl
@[simp] theorem State.physWrite_sp (p : Phys) (v : Byte) : (s.physWrite p v).sp = s.sp := rfl
@[simp] theorem State.physWrite_pc (p : Phys) (v : Byte) : (s.physWrite p v).pc = s.pc := rfl
@[simp] theorem State.physWrite_xpc (p : Phys) (v : Byte) : (s.physWrite p v).xpc = s.xpc := rfl
@[simp] theorem State.physWrite_ip (p : Phys) (v : Byte) : (s.physWrite p v).ip = s.ip := rfl
@[simp] theorem State.physWrite_iir (p : Phys) (v : Byte) : (s.physWrite p v).iir = s.iir := rfl
@[simp] theorem State.physWrite_eir (p : Phys) (v : Byte) : (s.physWrite p v).eir = s.eir := rfl
@[simp] theorem State.physWrite_inhibit (p : Phys) (v : Byte) : (s.physWrite p v).inhibit = s.inhibit := rfl
@[simp] theorem State.physWrite_ioWrites (p : Phys) (v : Byte) : (s.physWrite p v).ioWrites = s.ioWrites := rfl
@[simp] theorem State.physWrite_ioReads (p : Phys) (v : Byte) : (s.physWrite p v).ioReads = s.ioReads := rfl
@[simp] theorem State.physWrite_irq (p : Phys) (v : Byte) : (s.physWrite p v).irq = s.irq := rfl
@[simp] theorem State.physWrite_translation (p : Phys) (v : Byte) : (s.physWrite p v).translation = s.translation := rfl
@[simp] theorem State.physWrite_draws (p : Phys) (v : Byte) : (s.physWrite p v).draws = s.draws := rfl

end Sys2Proof.Machine
end

