-- ==== Sys2Proof/Laws/Memory.lean ====
section
/-!
SUPPORT. Physical memory: a write is read back, leaves every other byte alone, and keeps the canonical form; so does
every operation that stores.
-/
namespace Sys2Proof.Machine

@[simp] theorem Memory.get?_write_same (m : Memory) (a : Nat) (v : Byte) :
    Memory.get? (Memory.write m a v) a = some v := by
  induction m with
  | nil => simp [Memory.write, Memory.get?]
  | cons c m ih =>
    obtain ⟨k, w⟩ := c
    simp only [Memory.write]
    split
    · simp [Memory.get?]
    · split
      · simp [Memory.get?]
      · next h1 h2 => simp [Memory.get?, Ne.symm h2, ih]

theorem Memory.get?_write_other (m : Memory) (a b : Nat) (v : Byte) (h : b ≠ a) :
    Memory.get? (Memory.write m a v) b = Memory.get? m b := by
  induction m with
  | nil => simp [Memory.write, Memory.get?, Ne.symm h]
  | cons c m ih =>
    obtain ⟨k, w⟩ := c
    simp only [Memory.write]
    split
    · simp [Memory.get?, Ne.symm h]
    · split
      · next h1 h2 => subst h2; simp [Memory.get?, Ne.symm h]
      · simp [Memory.get?, ih]

@[simp] theorem Memory.read_write_same (m : Memory) (p : Phys) (v : Byte) :
    Memory.read (Memory.write m p.toNat v) p = v := by
  simp [Memory.read]

theorem Memory.read_write_other (m : Memory) (p q : Phys) (v : Byte) (h : q ≠ p) :
    Memory.read (Memory.write m p.toNat v) q = Memory.read m q := by
  have : q.toNat ≠ p.toNat := fun e => h (BitVec.eq_of_toNat_eq e)
  simp [Memory.read, Memory.get?_write_other _ _ _ _ this]

/-- Every listed address is at least `n`. -/
def Memory.atLeast (n : Nat) : Memory → Bool
  | [] => true
  | (k, _) :: _ => decide (n ≤ k)

theorem Memory.wf_cons (k : Nat) (v : Byte) (m : Memory) :
    Memory.wf ((k, v) :: m) = (decide (k < 2 ^ 20) && Memory.atLeast (k + 1) m && Memory.wf m) := by
  cases m with
  | nil => simp [Memory.wf, Memory.atLeast]
  | cons c m =>
    obtain ⟨k', v'⟩ := c
    have key : Memory.wf ((k', v') :: m) = true → k' < 2 ^ 20 := by
      clear * -
      induction m generalizing k' v' with
      | nil => simp [Memory.wf]
      | cons c m ih =>
        obtain ⟨k'', v''⟩ := c
        simp only [Memory.wf, Bool.and_eq_true, decide_eq_true_eq]
        rintro ⟨h1, h2⟩
        have := ih _ _ h2
        omega
    simp only [Memory.wf, Memory.atLeast]
    by_cases h : Memory.wf ((k', v') :: m) = true
    · have := key h
      by_cases h2 : k < k'
      · simp [h, h2, show k < 1048576 by omega]
      · simp [h2]
    · simp [h]

theorem Memory.atLeast_write (m : Memory) (n a : Nat) (v : Byte) (hm : Memory.atLeast n m = true) (ha : n ≤ a) :
    Memory.atLeast n (Memory.write m a v) = true := by
  cases m with
  | nil => simpa [Memory.write, Memory.atLeast] using ha
  | cons c m =>
    obtain ⟨k, w⟩ := c
    simp only [Memory.write]
    split
    · simpa [Memory.atLeast] using ha
    · split
      · simpa [Memory.atLeast] using ha
      · simpa [Memory.atLeast] using hm

/-- A write keeps the canonical form. -/
theorem Memory.wf_write (m : Memory) (p : Phys) (v : Byte) (h : Memory.wf m = true) :
    Memory.wf (Memory.write m p.toNat v) = true := by
  have hp : p.toNat < 2 ^ 20 := p.isLt
  induction m with
  | nil => simpa [Memory.write, Memory.wf] using hp
  | cons c m ih =>
    obtain ⟨k, w⟩ := c
    have h' := h
    rw [Memory.wf_cons] at h'
    simp only [Bool.and_eq_true, decide_eq_true_eq] at h'
    obtain ⟨⟨h1, h2⟩, h3⟩ := h'
    simp only [Memory.write]
    split
    · next hlt =>
      rw [Memory.wf_cons]
      simp only [Bool.and_eq_true, decide_eq_true_eq]
      exact ⟨⟨hp, by simpa [Memory.atLeast] using hlt⟩, h⟩
    · split
      · next _ he =>
        subst he
        rw [Memory.wf_cons]
        simp [h2, h3]
        exact hp
      · next hlt hne =>
        rw [Memory.wf_cons]
        simp only [Bool.and_eq_true, decide_eq_true_eq]
        exact ⟨⟨h1, Memory.atLeast_write _ _ _ _ h2 (by omega)⟩, ih h3⟩

/-! ## Bytes of physical memory after a store -/

@[simp] theorem State.physRead_physWrite_same (s : State) (p : Phys) (v : Byte) :
    (s.physWrite p v).physRead p = v := by
  simp [State.physRead]

theorem State.physRead_physWrite_other (s : State) (p q : Phys) (v : Byte) (h : q ≠ p) :
    (s.physWrite p v).physRead q = s.physRead q := by
  simp [State.physRead, Memory.read_write_other _ _ _ _ h]

/-- Logical addresses are translated alike in states that agree on what `Translate` may depend on. -/
theorem State.phys_congr {s t : State} (h1 : t.translation = s.translation) (h2 : t.xpc = s.xpc)
    (h3 : t.ioWrites = s.ioWrites) (a : Word) : t.phys a = s.phys a := by
  simp [State.phys, h1, h2, h3]

@[simp] theorem State.phys_physWrite (s : State) (p : Phys) (v : Byte) (a : Word) :
    (s.physWrite p v).phys a = s.phys a := rfl

@[simp] theorem State.phys_wrMem8 (s : State) (b : Word) (v : Byte) (a : Word) :
    (s.wrMem8 b v).phys a = s.phys a := rfl

/-- A store of one byte, read back through the same logical address. -/
@[simp] theorem State.mem8_wrMem8_same (s : State) (a : Word) (v : Byte) : (s.wrMem8 a v).mem8 a = v := by
  simp [State.mem8, State.wrMem8]

/-- A store of one byte leaves every other physical byte alone. -/
theorem State.physRead_wrMem8_other (s : State) (a : Word) (v : Byte) (q : Phys) (h : q ≠ s.phys a) :
    (s.wrMem8 a v).physRead q = s.physRead q :=
  State.physRead_physWrite_other s (s.phys a) q v h

/-- A store of two bytes leaves every other physical byte alone. -/
theorem State.physRead_wrMem16_other (s : State) (a v : Word) (q : Phys) (h0 : q ≠ s.phys a)
    (h1 : q ≠ s.phys (a + 1)) : (s.wrMem16 a v).physRead q = s.physRead q := by
  unfold State.wrMem16
  rw [State.physRead_wrMem8_other _ _ _ _ (by simpa using h1), State.physRead_wrMem8_other _ _ _ _ h0]

/-- The byte at the second address of a store of two bytes. -/
theorem State.mem8_wrMem16_hi (s : State) (a v : Word) : (s.wrMem16 a v).mem8 (a + 1) = hiByte v :=
  State.mem8_wrMem8_same _ _ _

/-- The byte at the first address of a store of two bytes at addresses that differ physically. -/
theorem State.mem8_wrMem16_lo (s : State) (a v : Word) (h : s.phys a ≠ s.phys (a + 1)) :
    (s.wrMem16 a v).mem8 a = loByte v :=
  (State.physRead_wrMem8_other (s.wrMem8 a (loByte v)) (a + 1) (hiByte v) _ h).trans
    (State.mem8_wrMem8_same s a (loByte v))

/-- A store of two bytes at addresses that differ physically is read back. -/
theorem State.mem16_wrMem16_same (s : State) (a v : Word) (h : s.phys a ≠ s.phys (a + 1)) :
    (s.wrMem16 a v).mem16 a = v := by
  rw [State.mem16, State.mem8_wrMem16_hi, State.mem8_wrMem16_lo _ _ _ h, mkWord_hi_lo]

/-! ## The canonical form -/

theorem State.physWrite_wf (s : State) (p : Phys) (v : Byte) (h : Memory.wf s.mem = true) :
    Memory.wf (s.physWrite p v).mem = true := Memory.wf_write _ _ _ h

theorem State.wrMem8_wf (s : State) (a : Word) (v : Byte) (h : Memory.wf s.mem = true) :
    Memory.wf (s.wrMem8 a v).mem = true := Memory.wf_write _ _ _ h

theorem State.wrMem16_wf (s : State) (a v : Word) (h : Memory.wf s.mem = true) :
    Memory.wf (s.wrMem16 a v).mem = true := State.wrMem8_wf _ _ _ (State.wrMem8_wf _ _ _ h)

theorem State.ldpWrite_wf (s : State) (x v : Word) (h : Memory.wf s.mem = true) :
    Memory.wf (s.ldpWrite x v).mem = true := State.physWrite_wf _ _ _ (State.physWrite_wf _ _ _ h)

theorem State.push8_wf (s : State) (v : Byte) (h : Memory.wf s.mem = true) : Memory.wf (s.push8 v).mem = true :=
  State.wrMem8_wf _ _ _ h

theorem State.push16_wf (s : State) (v : Word) (h : Memory.wf s.mem = true) : Memory.wf (s.push16 v).mem = true :=
  State.wrMem8_wf _ _ _ (State.wrMem8_wf _ _ _ h)

theorem State.enterInterrupt_wf (s : State) (q : IrqRequest) (h : Memory.wf s.mem = true) :
    Memory.wf (s.enterInterrupt q).mem = true := State.push16_wf s s.pc h

theorem State.boundary_wf (s : State) (h : Memory.wf s.mem = true) : Memory.wf s.boundary.mem = true := by
  unfold State.boundary
  split
  · exact h
  · exact h
  · split
    · exact State.enterInterrupt_wf _ _ h
    · exact h

end Sys2Proof.Machine
end

