-- ==== Sys2Proof/Laws/Ops.lean ====
section
/-!
SUPPORT. What each shared operation can change: one lemma per operation for every field of the state it leaves alone.
-/
namespace Sys2Proof.Machine

variable (s : State)

/-! `D(r) <- v` changes one of the two register sets. -/

@[simp] theorem State.setR8_ix (x : Bool) (r : R8) (v : Byte) : (s.setR8 x r v).ix = s.ix := rfl
@[simp] theorem State.setR8_iy (x : Bool) (r : R8) (v : Byte) : (s.setR8 x r v).iy = s.iy := rfl
@[simp] theorem State.setR8_sp (x : Bool) (r : R8) (v : Byte) : (s.setR8 x r v).sp = s.sp := rfl
@[simp] theorem State.setR8_pc (x : Bool) (r : R8) (v : Byte) : (s.setR8 x r v).pc = s.pc := rfl
@[simp] theorem State.setR8_xpc (x : Bool) (r : R8) (v : Byte) : (s.setR8 x r v).xpc = s.xpc := rfl
@[simp] theorem State.setR8_ip (x : Bool) (r : R8) (v : Byte) : (s.setR8 x r v).ip = s.ip := rfl
@[simp] theorem State.setR8_iir (x : Bool) (r : R8) (v : Byte) : (s.setR8 x r v).iir = s.iir := rfl
@[simp] theorem State.setR8_eir (x : Bool) (r : R8) (v : Byte) : (s.setR8 x r v).eir = s.eir := rfl
@[simp] theorem State.setR8_mem (x : Bool) (r : R8) (v : Byte) : (s.setR8 x r v).mem = s.mem := rfl
@[simp] theorem State.setR8_inhibit (x : Bool) (r : R8) (v : Byte) : (s.setR8 x r v).inhibit = s.inhibit := rfl
@[simp] theorem State.setR8_ioWrites (x : Bool) (r : R8) (v : Byte) : (s.setR8 x r v).ioWrites = s.ioWrites := rfl
@[simp] theorem State.setR8_ioReads (x : Bool) (r : R8) (v : Byte) : (s.setR8 x r v).ioReads = s.ioReads := rfl
@[simp] theorem State.setR8_irq (x : Bool) (r : R8) (v : Byte) : (s.setR8 x r v).irq = s.irq := rfl
@[simp] theorem State.setR8_translation (x : Bool) (r : R8) (v : Byte) : (s.setR8 x r v).translation = s.translation :=
  rfl
@[simp] theorem State.setR8_draws (x : Bool) (r : R8) (v : Byte) : (s.setR8 x r v).draws = s.draws := rfl

/-! `D(dd) <- v` changes one of the two register sets, or SP. -/

@[simp] theorem State.setSS_ix (x : Bool) (dd : SS) (v : Word) : (s.setSS x dd v).ix = s.ix := by cases dd <;> rfl
@[simp] theorem State.setSS_iy (x : Bool) (dd : SS) (v : Word) : (s.setSS x dd v).iy = s.iy := by cases dd <;> rfl
@[simp] theorem State.setSS_pc (x : Bool) (dd : SS) (v : Word) : (s.setSS x dd v).pc = s.pc := by cases dd <;> rfl
@[simp] theorem State.setSS_xpc (x : Bool) (dd : SS) (v : Word) : (s.setSS x dd v).xpc = s.xpc := by cases dd <;> rfl
@[simp] theorem State.setSS_ip (x : Bool) (dd : SS) (v : Word) : (s.setSS x dd v).ip = s.ip := by cases dd <;> rfl
@[simp] theorem State.setSS_iir (x : Bool) (dd : SS) (v : Word) : (s.setSS x dd v).iir = s.iir := by cases dd <;> rfl
@[simp] theorem State.setSS_eir (x : Bool) (dd : SS) (v : Word) : (s.setSS x dd v).eir = s.eir := by cases dd <;> rfl
@[simp] theorem State.setSS_mem (x : Bool) (dd : SS) (v : Word) : (s.setSS x dd v).mem = s.mem := by cases dd <;> rfl
@[simp] theorem State.setSS_inhibit (x : Bool) (dd : SS) (v : Word) : (s.setSS x dd v).inhibit = s.inhibit :=
  by cases dd <;> rfl
@[simp] theorem State.setSS_ioWrites (x : Bool) (dd : SS) (v : Word) : (s.setSS x dd v).ioWrites = s.ioWrites :=
  by cases dd <;> rfl
@[simp] theorem State.setSS_ioReads (x : Bool) (dd : SS) (v : Word) : (s.setSS x dd v).ioReads = s.ioReads :=
  by cases dd <;> rfl
@[simp] theorem State.setSS_irq (x : Bool) (dd : SS) (v : Word) : (s.setSS x dd v).irq = s.irq := by cases dd <;> rfl
@[simp] theorem State.setSS_translation (x : Bool) (dd : SS) (v : Word) : (s.setSS x dd v).translation = s.translation :=
  by cases dd <;> rfl
@[simp] theorem State.setSS_draws (x : Bool) (dd : SS) (v : Word) : (s.setSS x dd v).draws = s.draws :=
  by cases dd <;> rfl

/-! `D(zz) <- v` changes one of the two register sets. -/

@[simp] theorem State.setZZ_ix (x : Bool) (zz : ZZ) (v : Word) : (s.setZZ x zz v).ix = s.ix := by cases zz <;> rfl
@[simp] theorem State.setZZ_iy (x : Bool) (zz : ZZ) (v : Word) : (s.setZZ x zz v).iy = s.iy := by cases zz <;> rfl
@[simp] theorem State.setZZ_sp (x : Bool) (zz : ZZ) (v : Word) : (s.setZZ x zz v).sp = s.sp := by cases zz <;> rfl
@[simp] theorem State.setZZ_pc (x : Bool) (zz : ZZ) (v : Word) : (s.setZZ x zz v).pc = s.pc := by cases zz <;> rfl
@[simp] theorem State.setZZ_xpc (x : Bool) (zz : ZZ) (v : Word) : (s.setZZ x zz v).xpc = s.xpc := by cases zz <;> rfl
@[simp] theorem State.setZZ_ip (x : Bool) (zz : ZZ) (v : Word) : (s.setZZ x zz v).ip = s.ip := by cases zz <;> rfl
@[simp] theorem State.setZZ_iir (x : Bool) (zz : ZZ) (v : Word) : (s.setZZ x zz v).iir = s.iir := by cases zz <;> rfl
@[simp] theorem State.setZZ_eir (x : Bool) (zz : ZZ) (v : Word) : (s.setZZ x zz v).eir = s.eir := by cases zz <;> rfl
@[simp] theorem State.setZZ_mem (x : Bool) (zz : ZZ) (v : Word) : (s.setZZ x zz v).mem = s.mem := by cases zz <;> rfl
@[simp] theorem State.setZZ_inhibit (x : Bool) (zz : ZZ) (v : Word) : (s.setZZ x zz v).inhibit = s.inhibit :=
  by cases zz <;> rfl
@[simp] theorem State.setZZ_ioWrites (x : Bool) (zz : ZZ) (v : Word) : (s.setZZ x zz v).ioWrites = s.ioWrites :=
  by cases zz <;> rfl
@[simp] theorem State.setZZ_ioReads (x : Bool) (zz : ZZ) (v : Word) : (s.setZZ x zz v).ioReads = s.ioReads :=
  by cases zz <;> rfl
@[simp] theorem State.setZZ_irq (x : Bool) (zz : ZZ) (v : Word) : (s.setZZ x zz v).irq = s.irq := by cases zz <;> rfl
@[simp] theorem State.setZZ_translation (x : Bool) (zz : ZZ) (v : Word) : (s.setZZ x zz v).translation = s.translation :=
  by cases zz <;> rfl
@[simp] theorem State.setZZ_draws (x : Bool) (zz : ZZ) (v : Word) : (s.setZZ x zz v).draws = s.draws :=
  by cases zz <;> rfl

/-! `dd' <- v` changes the alternate set; the main set is `setDDa_main`. -/

@[simp] theorem State.setDDa_main (dd : DDa) (v : Word) : (s.setDDa dd v).main = s.main := by cases dd <;> rfl
@[simp] theorem State.setDDa_ix (dd : DDa) (v : Word) : (s.setDDa dd v).ix = s.ix := by cases dd <;> rfl
@[simp] theorem State.setDDa_iy (dd : DDa) (v : Word) : (s.setDDa dd v).iy = s.iy := by cases dd <;> rfl
@[simp] theorem State.setDDa_sp (dd : DDa) (v : Word) : (s.setDDa dd v).sp = s.sp := by cases dd <;> rfl
@[simp] theorem State.setDDa_pc (dd : DDa) (v : Word) : (s.setDDa dd v).pc = s.pc := by cases dd <;> rfl
@[simp] theorem State.setDDa_xpc (dd : DDa) (v : Word) : (s.setDDa dd v).xpc = s.xpc := by cases dd <;> rfl
@[simp] theorem State.setDDa_ip (dd : DDa) (v : Word) : (s.setDDa dd v).ip = s.ip := by cases dd <;> rfl
@[simp] theorem State.setDDa_iir (dd : DDa) (v : Word) : (s.setDDa dd v).iir = s.iir := by cases dd <;> rfl
@[simp] theorem State.setDDa_eir (dd : DDa) (v : Word) : (s.setDDa dd v).eir = s.eir := by cases dd <;> rfl
@[simp] theorem State.setDDa_mem (dd : DDa) (v : Word) : (s.setDDa dd v).mem = s.mem := by cases dd <;> rfl
@[simp] theorem State.setDDa_inhibit (dd : DDa) (v : Word) : (s.setDDa dd v).inhibit = s.inhibit :=
  by cases dd <;> rfl
@[simp] theorem State.setDDa_ioWrites (dd : DDa) (v : Word) : (s.setDDa dd v).ioWrites = s.ioWrites :=
  by cases dd <;> rfl
@[simp] theorem State.setDDa_ioReads (dd : DDa) (v : Word) : (s.setDDa dd v).ioReads = s.ioReads :=
  by cases dd <;> rfl
@[simp] theorem State.setDDa_irq (dd : DDa) (v : Word) : (s.setDDa dd v).irq = s.irq := by cases dd <;> rfl
@[simp] theorem State.setDDa_translation (dd : DDa) (v : Word) : (s.setDDa dd v).translation = s.translation :=
  by cases dd <;> rfl
@[simp] theorem State.setDDa_draws (dd : DDa) (v : Word) : (s.setDDa dd v).draws = s.draws := by cases dd <;> rfl

/-! Writing flags changes F or F'. -/

@[simp] theorem State.setFlags_ix (x : Bool) (u : FlagUpd) : (s.setFlags x u).ix = s.ix := rfl
@[simp] theorem State.setFlags_iy (x : Bool) (u : FlagUpd) : (s.setFlags x u).iy = s.iy := rfl
@[simp] theorem State.setFlags_sp (x : Bool) (u : FlagUpd) : (s.setFlags x u).sp = s.sp := rfl
@[simp] theorem State.setFlags_pc (x : Bool) (u : FlagUpd) : (s.setFlags x u).pc = s.pc := rfl
@[simp] theorem State.setFlags_xpc (x : Bool) (u : FlagUpd) : (s.setFlags x u).xpc = s.xpc := rfl
@[simp] theorem State.setFlags_ip (x : Bool) (u : FlagUpd) : (s.setFlags x u).ip = s.ip := rfl
@[simp] theorem State.setFlags_iir (x : Bool) (u : FlagUpd) : (s.setFlags x u).iir = s.iir := rfl
@[simp] theorem State.setFlags_eir (x : Bool) (u : FlagUpd) : (s.setFlags x u).eir = s.eir := rfl
@[simp] theorem State.setFlags_mem (x : Bool) (u : FlagUpd) : (s.setFlags x u).mem = s.mem := rfl
@[simp] theorem State.setFlags_inhibit (x : Bool) (u : FlagUpd) : (s.setFlags x u).inhibit = s.inhibit := rfl
@[simp] theorem State.setFlags_ioWrites (x : Bool) (u : FlagUpd) : (s.setFlags x u).ioWrites = s.ioWrites := rfl
@[simp] theorem State.setFlags_ioReads (x : Bool) (u : FlagUpd) : (s.setFlags x u).ioReads = s.ioReads := rfl
@[simp] theorem State.setFlags_irq (x : Bool) (u : FlagUpd) : (s.setFlags x u).irq = s.irq := rfl
@[simp] theorem State.setFlags_translation (x : Bool) (u : FlagUpd) : (s.setFlags x u).translation = s.translation :=
  rfl
@[simp] theorem State.setFlags_draws (x : Bool) (u : FlagUpd) : (s.setFlags x u).draws = s.draws := rfl

/-! `EXX` changes the two register sets. -/

@[simp] theorem State.exchangeGeneral_ix : (s.exchangeGeneral).ix = s.ix := rfl
@[simp] theorem State.exchangeGeneral_iy : (s.exchangeGeneral).iy = s.iy := rfl
@[simp] theorem State.exchangeGeneral_sp : (s.exchangeGeneral).sp = s.sp := rfl
@[simp] theorem State.exchangeGeneral_pc : (s.exchangeGeneral).pc = s.pc := rfl
@[simp] theorem State.exchangeGeneral_xpc : (s.exchangeGeneral).xpc = s.xpc := rfl
@[simp] theorem State.exchangeGeneral_ip : (s.exchangeGeneral).ip = s.ip := rfl
@[simp] theorem State.exchangeGeneral_iir : (s.exchangeGeneral).iir = s.iir := rfl
@[simp] theorem State.exchangeGeneral_eir : (s.exchangeGeneral).eir = s.eir := rfl
@[simp] theorem State.exchangeGeneral_mem : (s.exchangeGeneral).mem = s.mem := rfl
@[simp] theorem State.exchangeGeneral_inhibit : (s.exchangeGeneral).inhibit = s.inhibit := rfl
@[simp] theorem State.exchangeGeneral_ioWrites : (s.exchangeGeneral).ioWrites = s.ioWrites := rfl
@[simp] theorem State.exchangeGeneral_ioReads : (s.exchangeGeneral).ioReads = s.ioReads := rfl
@[simp] theorem State.exchangeGeneral_irq : (s.exchangeGeneral).irq = s.irq := rfl
@[simp] theorem State.exchangeGeneral_translation : (s.exchangeGeneral).translation = s.translation := rfl
@[simp] theorem State.exchangeGeneral_draws : (s.exchangeGeneral).draws = s.draws := rfl

/-! The exchanges change the two register sets. -/

@[simp] theorem State.exchangeDEa_ix (x : Bool) : (s.exchangeDEa x).ix = s.ix := by cases x <;> rfl
@[simp] theorem State.exchangeDEa_iy (x : Bool) : (s.exchangeDEa x).iy = s.iy := by cases x <;> rfl
@[simp] theorem State.exchangeDEa_sp (x : Bool) : (s.exchangeDEa x).sp = s.sp := by cases x <;> rfl
@[simp] theorem State.exchangeDEa_pc (x : Bool) : (s.exchangeDEa x).pc = s.pc := by cases x <;> rfl
@[simp] theorem State.exchangeDEa_xpc (x : Bool) : (s.exchangeDEa x).xpc = s.xpc := by cases x <;> rfl
@[simp] theorem State.exchangeDEa_ip (x : Bool) : (s.exchangeDEa x).ip = s.ip := by cases x <;> rfl
@[simp] theorem State.exchangeDEa_iir (x : Bool) : (s.exchangeDEa x).iir = s.iir := by cases x <;> rfl
@[simp] theorem State.exchangeDEa_eir (x : Bool) : (s.exchangeDEa x).eir = s.eir := by cases x <;> rfl
@[simp] theorem State.exchangeDEa_mem (x : Bool) : (s.exchangeDEa x).mem = s.mem := by cases x <;> rfl
@[simp] theorem State.exchangeDEa_inhibit (x : Bool) : (s.exchangeDEa x).inhibit = s.inhibit := by cases x <;> rfl
@[simp] theorem State.exchangeDEa_ioWrites (x : Bool) : (s.exchangeDEa x).ioWrites = s.ioWrites := by cases x <;> rfl
@[simp] theorem State.exchangeDEa_ioReads (x : Bool) : (s.exchangeDEa x).ioReads = s.ioReads := by cases x <;> rfl
@[simp] theorem State.exchangeDEa_irq (x : Bool) : (s.exchangeDEa x).irq = s.irq := by cases x <;> rfl
@[simp] theorem State.exchangeDEa_translation (x : Bool) : (s.exchangeDEa x).translation = s.translation :=
  by cases x <;> rfl
@[simp] theorem State.exchangeDEa_draws (x : Bool) : (s.exchangeDEa x).draws = s.draws := by cases x <;> rfl

/-! The exchanges change the two register sets. -/

@[simp] theorem State.exchangeDE_ix (x : Bool) : (s.exchangeDE x).ix = s.ix := by cases x <;> rfl
@[simp] theorem State.exchangeDE_iy (x : Bool) : (s.exchangeDE x).iy = s.iy := by cases x <;> rfl
@[simp] theorem State.exchangeDE_sp (x : Bool) : (s.exchangeDE x).sp = s.sp := by cases x <;> rfl
@[simp] theorem State.exchangeDE_pc (x : Bool) : (s.exchangeDE x).pc = s.pc := by cases x <;> rfl
@[simp] theorem State.exchangeDE_xpc (x : Bool) : (s.exchangeDE x).xpc = s.xpc := by cases x <;> rfl
@[simp] theorem State.exchangeDE_ip (x : Bool) : (s.exchangeDE x).ip = s.ip := by cases x <;> rfl
@[simp] theorem State.exchangeDE_iir (x : Bool) : (s.exchangeDE x).iir = s.iir := by cases x <;> rfl
@[simp] theorem State.exchangeDE_eir (x : Bool) : (s.exchangeDE x).eir = s.eir := by cases x <;> rfl
@[simp] theorem State.exchangeDE_mem (x : Bool) : (s.exchangeDE x).mem = s.mem := by cases x <;> rfl
@[simp] theorem State.exchangeDE_inhibit (x : Bool) : (s.exchangeDE x).inhibit = s.inhibit := by cases x <;> rfl
@[simp] theorem State.exchangeDE_ioWrites (x : Bool) : (s.exchangeDE x).ioWrites = s.ioWrites := by cases x <;> rfl
@[simp] theorem State.exchangeDE_ioReads (x : Bool) : (s.exchangeDE x).ioReads = s.ioReads := by cases x <;> rfl
@[simp] theorem State.exchangeDE_irq (x : Bool) : (s.exchangeDE x).irq = s.irq := by cases x <;> rfl
@[simp] theorem State.exchangeDE_translation (x : Bool) : (s.exchangeDE x).translation = s.translation :=
  by cases x <;> rfl
@[simp] theorem State.exchangeDE_draws (x : Bool) : (s.exchangeDE x).draws = s.draws := by cases x <;> rfl

/-! A store changes memory. -/

@[simp] theorem State.wrMem8_main (a : Word) (v : Byte) : (s.wrMem8 a v).main = s.main := rfl
@[simp] theorem State.wrMem8_alt (a : Word) (v : Byte) : (s.wrMem8 a v).alt = s.alt := rfl
@[simp] theorem State.wrMem8_ix (a : Word) (v : Byte) : (s.wrMem8 a v).ix = s.ix := rfl
@[simp] theorem State.wrMem8_iy (a : Word) (v : Byte) : (s.wrMem8 a v).iy = s.iy := rfl
@[simp] theorem State.wrMem8_sp (a : Word) (v : Byte) : (s.wrMem8 a v).sp = s.sp := rfl
@[simp] theorem State.wrMem8_pc (a : Word) (v : Byte) : (s.wrMem8 a v).pc = s.pc := rfl
@[simp] theorem State.wrMem8_xpc (a : Word) (v : Byte) : (s.wrMem8 a v).xpc = s.xpc := rfl
@[simp] theorem State.wrMem8_ip (a : Word) (v : Byte) : (s.wrMem8 a v).ip = s.ip := rfl
@[simp] theorem State.wrMem8_iir (a : Word) (v : Byte) : (s.wrMem8 a v).iir = s.iir := rfl
@[simp] theorem State.wrMem8_eir (a : Word) (v : Byte) : (s.wrMem8 a v).eir = s.eir := rfl
@[simp] theorem State.wrMem8_inhibit (a : Word) (v : Byte) : (s.wrMem8 a v).inhibit = s.inhibit := rfl
@[simp] theorem State.wrMem8_ioWrites (a : Word) (v : Byte) : (s.wrMem8 a v).ioWrites = s.ioWrites := rfl
@[simp] theorem State.wrMem8_ioReads (a : Word) (v : Byte) : (s.wrMem8 a v).ioReads = s.ioReads := rfl
@[simp] theorem State.wrMem8_irq (a : Word) (v : Byte) : (s.wrMem8 a v).irq = s.irq := rfl
@[simp] theorem State.wrMem8_translation (a : Word) (v : Byte) : (s.wrMem8 a v).translation = s.translation := rfl
@[simp] theorem State.wrMem8_draws (a : Word) (v : Byte) : (s.wrMem8 a v).draws = s.draws := rfl

/-! A store changes memory. -/

@[simp] theorem State.wrMem16_main (a v : Word) : (s.wrMem16 a v).main = s.main := rfl
@[simp] theorem State.wrMem16_alt (a v : Word) : (s.wrMem16 a v).alt = s.alt := rfl
@[simp] theorem State.wrMem16_ix (a v : Word) : (s.wrMem16 a v).ix = s.ix := rfl
@[simp] theorem State.wrMem16_iy (a v : Word) : (s.wrMem16 a v).iy = s.iy := rfl
@[simp] theorem State.wrMem16_sp (a v : Word) : (s.wrMem16 a v).sp = s.sp := rfl
@[simp] theorem State.wrMem16_pc (a v : Word) : (s.wrMem16 a v).pc = s.pc := rfl
@[simp] theorem State.wrMem16_xpc (a v : Word) : (s.wrMem16 a v).xpc = s.xpc := rfl
@[simp] theorem State.wrMem16_ip (a v : Word) : (s.wrMem16 a v).ip = s.ip := rfl
@[simp] theorem State.wrMem16_iir (a v : Word) : (s.wrMem16 a v).iir = s.iir := rfl
@[simp] theorem State.wrMem16_eir (a v : Word) : (s.wrMem16 a v).eir = s.eir := rfl
@[simp] theorem State.wrMem16_inhibit (a v : Word) : (s.wrMem16 a v).inhibit = s.inhibit := rfl
@[simp] theorem State.wrMem16_ioWrites (a v : Word) : (s.wrMem16 a v).ioWrites = s.ioWrites := rfl
@[simp] theorem State.wrMem16_ioReads (a v : Word) : (s.wrMem16 a v).ioReads = s.ioReads := rfl
@[simp] theorem State.wrMem16_irq (a v : Word) : (s.wrMem16 a v).irq = s.irq := rfl
@[simp] theorem State.wrMem16_translation (a v : Word) : (s.wrMem16 a v).translation = s.translation := rfl
@[simp] theorem State.wrMem16_draws (a v : Word) : (s.wrMem16 a v).draws = s.draws := rfl

/-! An `LDP` store changes memory. -/

@[simp] theorem State.ldpWrite_main (x v : Word) : (s.ldpWrite x v).main = s.main := rfl
@[simp] theorem State.ldpWrite_alt (x v : Word) : (s.ldpWrite x v).alt = s.alt := rfl
@[simp] theorem State.ldpWrite_ix (x v : Word) : (s.ldpWrite x v).ix = s.ix := rfl
@[simp] theorem State.ldpWrite_iy (x v : Word) : (s.ldpWrite x v).iy = s.iy := rfl
@[simp] theorem State.ldpWrite_sp (x v : Word) : (s.ldpWrite x v).sp = s.sp := rfl
@[simp] theorem State.ldpWrite_pc (x v : Word) : (s.ldpWrite x v).pc = s.pc := rfl
@[simp] theorem State.ldpWrite_xpc (x v : Word) : (s.ldpWrite x v).xpc = s.xpc := rfl
@[simp] theorem State.ldpWrite_ip (x v : Word) : (s.ldpWrite x v).ip = s.ip := rfl
@[simp] theorem State.ldpWrite_iir (x v : Word) : (s.ldpWrite x v).iir = s.iir := rfl
@[simp] theorem State.ldpWrite_eir (x v : Word) : (s.ldpWrite x v).eir = s.eir := rfl
@[simp] theorem State.ldpWrite_inhibit (x v : Word) : (s.ldpWrite x v).inhibit = s.inhibit := rfl
@[simp] theorem State.ldpWrite_ioWrites (x v : Word) : (s.ldpWrite x v).ioWrites = s.ioWrites := rfl
@[simp] theorem State.ldpWrite_ioReads (x v : Word) : (s.ldpWrite x v).ioReads = s.ioReads := rfl
@[simp] theorem State.ldpWrite_irq (x v : Word) : (s.ldpWrite x v).irq = s.irq := rfl
@[simp] theorem State.ldpWrite_translation (x v : Word) : (s.ldpWrite x v).translation = s.translation := rfl
@[simp] theorem State.ldpWrite_draws (x v : Word) : (s.ldpWrite x v).draws = s.draws := rfl

/-! A push changes memory and SP. -/

@[simp] theorem State.push8_main (v : Byte) : (s.push8 v).main = s.main := rfl
@[simp] theorem State.push8_alt (v : Byte) : (s.push8 v).alt = s.alt := rfl
@[simp] theorem State.push8_ix (v : Byte) : (s.push8 v).ix = s.ix := rfl
@[simp] theorem State.push8_iy (v : Byte) : (s.push8 v).iy = s.iy := rfl
@[simp] theorem State.push8_pc (v : Byte) : (s.push8 v).pc = s.pc := rfl
@[simp] theorem State.push8_xpc (v : Byte) : (s.push8 v).xpc = s.xpc := rfl
@[simp] theorem State.push8_ip (v : Byte) : (s.push8 v).ip = s.ip := rfl
@[simp] theorem State.push8_iir (v : Byte) : (s.push8 v).iir = s.iir := rfl
@[simp] theorem State.push8_eir (v : Byte) : (s.push8 v).eir = s.eir := rfl
@[simp] theorem State.push8_inhibit (v : Byte) : (s.push8 v).inhibit = s.inhibit := rfl
@[simp] theorem State.push8_ioWrites (v : Byte) : (s.push8 v).ioWrites = s.ioWrites := rfl
@[simp] theorem State.push8_ioReads (v : Byte) : (s.push8 v).ioReads = s.ioReads := rfl
@[simp] theorem State.push8_irq (v : Byte) : (s.push8 v).irq = s.irq := rfl
@[simp] theorem State.push8_translation (v : Byte) : (s.push8 v).translation = s.translation := rfl
@[simp] theorem State.push8_draws (v : Byte) : (s.push8 v).draws = s.draws := rfl

/-! A push changes memory and SP. -/

@[simp] theorem State.push16_main (v : Word) : (s.push16 v).main = s.main := rfl
@[simp] theorem State.push16_alt (v : Word) : (s.push16 v).alt = s.alt := rfl
@[simp] theorem State.push16_ix (v : Word) : (s.push16 v).ix = s.ix := rfl
@[simp] theorem State.push16_iy (v : Word) : (s.push16 v).iy = s.iy := rfl
@[simp] theorem State.push16_pc (v : Word) : (s.push16 v).pc = s.pc := rfl
@[simp] theorem State.push16_xpc (v : Word) : (s.push16 v).xpc = s.xpc := rfl
@[simp] theorem State.push16_ip (v : Word) : (s.push16 v).ip = s.ip := rfl
@[simp] theorem State.push16_iir (v : Word) : (s.push16 v).iir = s.iir := rfl
@[simp] theorem State.push16_eir (v : Word) : (s.push16 v).eir = s.eir := rfl
@[simp] theorem State.push16_inhibit (v : Word) : (s.push16 v).inhibit = s.inhibit := rfl
@[simp] theorem State.push16_ioWrites (v : Word) : (s.push16 v).ioWrites = s.ioWrites := rfl
@[simp] theorem State.push16_ioReads (v : Word) : (s.push16 v).ioReads = s.ioReads := rfl
@[simp] theorem State.push16_irq (v : Word) : (s.push16 v).irq = s.irq := rfl
@[simp] theorem State.push16_translation (v : Word) : (s.push16 v).translation = s.translation := rfl
@[simp] theorem State.push16_draws (v : Word) : (s.push16 v).draws = s.draws := rfl

/-! `PUSH AF` counts a draw. -/

@[simp] theorem State.afterPush_main (zz : ZZ) : (s.afterPush zz).main = s.main := by cases zz <;> rfl
@[simp] theorem State.afterPush_alt (zz : ZZ) : (s.afterPush zz).alt = s.alt := by cases zz <;> rfl
@[simp] theorem State.afterPush_ix (zz : ZZ) : (s.afterPush zz).ix = s.ix := by cases zz <;> rfl
@[simp] theorem State.afterPush_iy (zz : ZZ) : (s.afterPush zz).iy = s.iy := by cases zz <;> rfl
@[simp] theorem State.afterPush_sp (zz : ZZ) : (s.afterPush zz).sp = s.sp := by cases zz <;> rfl
@[simp] theorem State.afterPush_pc (zz : ZZ) : (s.afterPush zz).pc = s.pc := by cases zz <;> rfl
@[simp] theorem State.afterPush_xpc (zz : ZZ) : (s.afterPush zz).xpc = s.xpc := by cases zz <;> rfl
@[simp] theorem State.afterPush_ip (zz : ZZ) : (s.afterPush zz).ip = s.ip := by cases zz <;> rfl
@[simp] theorem State.afterPush_iir (zz : ZZ) : (s.afterPush zz).iir = s.iir := by cases zz <;> rfl
@[simp] theorem State.afterPush_eir (zz : ZZ) : (s.afterPush zz).eir = s.eir := by cases zz <;> rfl
@[simp] theorem State.afterPush_mem (zz : ZZ) : (s.afterPush zz).mem = s.mem := by cases zz <;> rfl
@[simp] theorem State.afterPush_inhibit (zz : ZZ) : (s.afterPush zz).inhibit = s.inhibit := by cases zz <;> rfl
@[simp] theorem State.afterPush_ioWrites (zz : ZZ) : (s.afterPush zz).ioWrites = s.ioWrites := by cases zz <;> rfl
@[simp] theorem State.afterPush_ioReads (zz : ZZ) : (s.afterPush zz).ioReads = s.ioReads := by cases zz <;> rfl
@[simp] theorem State.afterPush_irq (zz : ZZ) : (s.afterPush zz).irq = s.irq := by cases zz <;> rfl
@[simp] theorem State.afterPush_translation (zz : ZZ) : (s.afterPush zz).translation = s.translation :=
  by cases zz <;> rfl

/-! The end of an instruction changes PC and `inhibit`. -/

@[simp] theorem State.advance_main (c : Ctx) (n : Nat) : (s.advance c n).main = s.main := rfl
@[simp] theorem State.advance_alt (c : Ctx) (n : Nat) : (s.advance c n).alt = s.alt := rfl
@[simp] theorem State.advance_ix (c : Ctx) (n : Nat) : (s.advance c n).ix = s.ix := rfl
@[simp] theorem State.advance_iy (c : Ctx) (n : Nat) : (s.advance c n).iy = s.iy := rfl
@[simp] theorem State.advance_sp (c : Ctx) (n : Nat) : (s.advance c n).sp = s.sp := rfl
@[simp] theorem State.advance_xpc (c : Ctx) (n : Nat) : (s.advance c n).xpc = s.xpc := rfl
@[simp] theorem State.advance_ip (c : Ctx) (n : Nat) : (s.advance c n).ip = s.ip := rfl
@[simp] theorem State.advance_iir (c : Ctx) (n : Nat) : (s.advance c n).iir = s.iir := rfl
@[simp] theorem State.advance_eir (c : Ctx) (n : Nat) : (s.advance c n).eir = s.eir := rfl
@[simp] theorem State.advance_mem (c : Ctx) (n : Nat) : (s.advance c n).mem = s.mem := rfl
@[simp] theorem State.advance_ioWrites (c : Ctx) (n : Nat) : (s.advance c n).ioWrites = s.ioWrites := rfl
@[simp] theorem State.advance_ioReads (c : Ctx) (n : Nat) : (s.advance c n).ioReads = s.ioReads := rfl
@[simp] theorem State.advance_irq (c : Ctx) (n : Nat) : (s.advance c n).irq = s.irq := rfl
@[simp] theorem State.advance_translation (c : Ctx) (n : Nat) : (s.advance c n).translation = s.translation := rfl
@[simp] theorem State.advance_draws (c : Ctx) (n : Nat) : (s.advance c n).draws = s.draws := rfl

/-! The end of an instruction changes PC and `inhibit`. -/

@[simp] theorem State.advancePriv_main (c : Ctx) (n : Nat) : (s.advancePriv c n).main = s.main := rfl
@[simp] theorem State.advancePriv_alt (c : Ctx) (n : Nat) : (s.advancePriv c n).alt = s.alt := rfl
@[simp] theorem State.advancePriv_ix (c : Ctx) (n : Nat) : (s.advancePriv c n).ix = s.ix := rfl
@[simp] theorem State.advancePriv_iy (c : Ctx) (n : Nat) : (s.advancePriv c n).iy = s.iy := rfl
@[simp] theorem State.advancePriv_sp (c : Ctx) (n : Nat) : (s.advancePriv c n).sp = s.sp := rfl
@[simp] theorem State.advancePriv_xpc (c : Ctx) (n : Nat) : (s.advancePriv c n).xpc = s.xpc := rfl
@[simp] theorem State.advancePriv_ip (c : Ctx) (n : Nat) : (s.advancePriv c n).ip = s.ip := rfl
@[simp] theorem State.advancePriv_iir (c : Ctx) (n : Nat) : (s.advancePriv c n).iir = s.iir := rfl
@[simp] theorem State.advancePriv_eir (c : Ctx) (n : Nat) : (s.advancePriv c n).eir = s.eir := rfl
@[simp] theorem State.advancePriv_mem (c : Ctx) (n : Nat) : (s.advancePriv c n).mem = s.mem := rfl
@[simp] theorem State.advancePriv_ioWrites (c : Ctx) (n : Nat) : (s.advancePriv c n).ioWrites = s.ioWrites := rfl
@[simp] theorem State.advancePriv_ioReads (c : Ctx) (n : Nat) : (s.advancePriv c n).ioReads = s.ioReads := rfl
@[simp] theorem State.advancePriv_irq (c : Ctx) (n : Nat) : (s.advancePriv c n).irq = s.irq := rfl
@[simp] theorem State.advancePriv_translation (c : Ctx) (n : Nat) : (s.advancePriv c n).translation = s.translation :=
  rfl
@[simp] theorem State.advancePriv_draws (c : Ctx) (n : Nat) : (s.advancePriv c n).draws = s.draws := rfl

/-! The end of an instruction changes PC and `inhibit`. -/

@[simp] theorem State.jump_main (t : Word) : (s.jump t).main = s.main := rfl
@[simp] theorem State.jump_alt (t : Word) : (s.jump t).alt = s.alt := rfl
@[simp] theorem State.jump_ix (t : Word) : (s.jump t).ix = s.ix := rfl
@[simp] theorem State.jump_iy (t : Word) : (s.jump t).iy = s.iy := rfl
@[simp] theorem State.jump_sp (t : Word) : (s.jump t).sp = s.sp := rfl
@[simp] theorem State.jump_xpc (t : Word) : (s.jump t).xpc = s.xpc := rfl
@[simp] theorem State.jump_ip (t : Word) : (s.jump t).ip = s.ip := rfl
@[simp] theorem State.jump_iir (t : Word) : (s.jump t).iir = s.iir := rfl
@[simp] theorem State.jump_eir (t : Word) : (s.jump t).eir = s.eir := rfl
@[simp] theorem State.jump_mem (t : Word) : (s.jump t).mem = s.mem := rfl
@[simp] theorem State.jump_ioWrites (t : Word) : (s.jump t).ioWrites = s.ioWrites := rfl
@[simp] theorem State.jump_ioReads (t : Word) : (s.jump t).ioReads = s.ioReads := rfl
@[simp] theorem State.jump_irq (t : Word) : (s.jump t).irq = s.irq := rfl
@[simp] theorem State.jump_translation (t : Word) : (s.jump t).translation = s.translation := rfl
@[simp] theorem State.jump_draws (t : Word) : (s.jump t).draws = s.draws := rfl

/-! The end of an instruction changes PC and `inhibit`. -/

@[simp] theorem State.jumpPriv_main (t : Word) : (s.jumpPriv t).main = s.main := rfl
@[simp] theorem State.jumpPriv_alt (t : Word) : (s.jumpPriv t).alt = s.alt := rfl
@[simp] theorem State.jumpPriv_ix (t : Word) : (s.jumpPriv t).ix = s.ix := rfl
@[simp] theorem State.jumpPriv_iy (t : Word) : (s.jumpPriv t).iy = s.iy := rfl
@[simp] theorem State.jumpPriv_sp (t : Word) : (s.jumpPriv t).sp = s.sp := rfl
@[simp] theorem State.jumpPriv_xpc (t : Word) : (s.jumpPriv t).xpc = s.xpc := rfl
@[simp] theorem State.jumpPriv_ip (t : Word) : (s.jumpPriv t).ip = s.ip := rfl
@[simp] theorem State.jumpPriv_iir (t : Word) : (s.jumpPriv t).iir = s.iir := rfl
@[simp] theorem State.jumpPriv_eir (t : Word) : (s.jumpPriv t).eir = s.eir := rfl
@[simp] theorem State.jumpPriv_mem (t : Word) : (s.jumpPriv t).mem = s.mem := rfl
@[simp] theorem State.jumpPriv_ioWrites (t : Word) : (s.jumpPriv t).ioWrites = s.ioWrites := rfl
@[simp] theorem State.jumpPriv_ioReads (t : Word) : (s.jumpPriv t).ioReads = s.ioReads := rfl
@[simp] theorem State.jumpPriv_irq (t : Word) : (s.jumpPriv t).irq = s.irq := rfl
@[simp] theorem State.jumpPriv_translation (t : Word) : (s.jumpPriv t).translation = s.translation := rfl
@[simp] theorem State.jumpPriv_draws (t : Word) : (s.jumpPriv t).draws = s.draws := rfl

/-! The end of an instruction changes PC and `inhibit`. -/

@[simp] theorem State.branch_main (c : Ctx) (n : Nat) (b : Bool) (t : Word) : (s.branch c n b t).main = s.main :=
  by cases b <;> rfl
@[simp] theorem State.branch_alt (c : Ctx) (n : Nat) (b : Bool) (t : Word) : (s.branch c n b t).alt = s.alt :=
  by cases b <;> rfl
@[simp] theorem State.branch_ix (c : Ctx) (n : Nat) (b : Bool) (t : Word) : (s.branch c n b t).ix = s.ix :=
  by cases b <;> rfl
@[simp] theorem State.branch_iy (c : Ctx) (n : Nat) (b : Bool) (t : Word) : (s.branch c n b t).iy = s.iy :=
  by cases b <;> rfl
@[simp] theorem State.branch_sp (c : Ctx) (n : Nat) (b : Bool) (t : Word) : (s.branch c n b t).sp = s.sp :=
  by cases b <;> rfl
@[simp] theorem State.branch_xpc (c : Ctx) (n : Nat) (b : Bool) (t : Word) : (s.branch c n b t).xpc = s.xpc :=
  by cases b <;> rfl
@[simp] theorem State.branch_ip (c : Ctx) (n : Nat) (b : Bool) (t : Word) : (s.branch c n b t).ip = s.ip :=
  by cases b <;> rfl
@[simp] theorem State.branch_iir (c : Ctx) (n : Nat) (b : Bool) (t : Word) : (s.branch c n b t).iir = s.iir :=
  by cases b <;> rfl
@[simp] theorem State.branch_eir (c : Ctx) (n : Nat) (b : Bool) (t : Word) : (s.branch c n b t).eir = s.eir :=
  by cases b <;> rfl
@[simp] theorem State.branch_mem (c : Ctx) (n : Nat) (b : Bool) (t : Word) : (s.branch c n b t).mem = s.mem :=
  by cases b <;> rfl
@[simp] theorem State.branch_ioWrites (c : Ctx) (n : Nat) (b : Bool) (t : Word) : (s.branch c n b t).ioWrites = s.ioWrites :=
  by cases b <;> rfl
@[simp] theorem State.branch_ioReads (c : Ctx) (n : Nat) (b : Bool) (t : Word) : (s.branch c n b t).ioReads = s.ioReads :=
  by cases b <;> rfl
@[simp] theorem State.branch_irq (c : Ctx) (n : Nat) (b : Bool) (t : Word) : (s.branch c n b t).irq = s.irq :=
  by cases b <;> rfl
@[simp] theorem State.branch_translation (c : Ctx) (n : Nat) (b : Bool) (t : Word) : (s.branch c n b t).translation = s.translation :=
  by cases b <;> rfl
@[simp] theorem State.branch_draws (c : Ctx) (n : Nat) (b : Bool) (t : Word) : (s.branch c n b t).draws = s.draws :=
  by cases b <;> rfl

/-! The end of an instruction changes PC and `inhibit`. -/

@[simp] theorem State.repeatOrAdvance_main (c : Ctx) (n : Nat) : (s.repeatOrAdvance c n).main = s.main :=
  by unfold State.repeatOrAdvance; split <;> rfl
@[simp] theorem State.repeatOrAdvance_alt (c : Ctx) (n : Nat) : (s.repeatOrAdvance c n).alt = s.alt :=
  by unfold State.repeatOrAdvance; split <;> rfl
@[simp] theorem State.repeatOrAdvance_ix (c : Ctx) (n : Nat) : (s.repeatOrAdvance c n).ix = s.ix :=
  by unfold State.repeatOrAdvance; split <;> rfl
@[simp] theorem State.repeatOrAdvance_iy (c : Ctx) (n : Nat) : (s.repeatOrAdvance c n).iy = s.iy :=
  by unfold State.repeatOrAdvance; split <;> rfl
@[simp] theorem State.repeatOrAdvance_sp (c : Ctx) (n : Nat) : (s.repeatOrAdvance c n).sp = s.sp :=
  by unfold State.repeatOrAdvance; split <;> rfl
@[simp] theorem State.repeatOrAdvance_xpc (c : Ctx) (n : Nat) : (s.repeatOrAdvance c n).xpc = s.xpc :=
  by unfold State.repeatOrAdvance; split <;> rfl
@[simp] theorem State.repeatOrAdvance_ip (c : Ctx) (n : Nat) : (s.repeatOrAdvance c n).ip = s.ip :=
  by unfold State.repeatOrAdvance; split <;> rfl
@[simp] theorem State.repeatOrAdvance_iir (c : Ctx) (n : Nat) : (s.repeatOrAdvance c n).iir = s.iir :=
  by unfold State.repeatOrAdvance; split <;> rfl
@[simp] theorem State.repeatOrAdvance_eir (c : Ctx) (n : Nat) : (s.repeatOrAdvance c n).eir = s.eir :=
  by unfold State.repeatOrAdvance; split <;> rfl
@[simp] theorem State.repeatOrAdvance_mem (c : Ctx) (n : Nat) : (s.repeatOrAdvance c n).mem = s.mem :=
  by unfold State.repeatOrAdvance; split <;> rfl
@[simp] theorem State.repeatOrAdvance_ioWrites (c : Ctx) (n : Nat) : (s.repeatOrAdvance c n).ioWrites = s.ioWrites :=
  by unfold State.repeatOrAdvance; split <;> rfl
@[simp] theorem State.repeatOrAdvance_ioReads (c : Ctx) (n : Nat) : (s.repeatOrAdvance c n).ioReads = s.ioReads :=
  by unfold State.repeatOrAdvance; split <;> rfl
@[simp] theorem State.repeatOrAdvance_irq (c : Ctx) (n : Nat) : (s.repeatOrAdvance c n).irq = s.irq :=
  by unfold State.repeatOrAdvance; split <;> rfl
@[simp] theorem State.repeatOrAdvance_translation (c : Ctx) (n : Nat) : (s.repeatOrAdvance c n).translation = s.translation :=
  by unfold State.repeatOrAdvance; split <;> rfl
@[simp] theorem State.repeatOrAdvance_draws (c : Ctx) (n : Nat) : (s.repeatOrAdvance c n).draws = s.draws :=
  by unfold State.repeatOrAdvance; split <;> rfl

/-! A return changes PC, `inhibit` and SP. -/

@[simp] theorem State.ret_main : (s.ret).main = s.main := rfl
@[simp] theorem State.ret_alt : (s.ret).alt = s.alt := rfl
@[simp] theorem State.ret_ix : (s.ret).ix = s.ix := rfl
@[simp] theorem State.ret_iy : (s.ret).iy = s.iy := rfl
@[simp] theorem State.ret_xpc : (s.ret).xpc = s.xpc := rfl
@[simp] theorem State.ret_ip : (s.ret).ip = s.ip := rfl
@[simp] theorem State.ret_iir : (s.ret).iir = s.iir := rfl
@[simp] theorem State.ret_eir : (s.ret).eir = s.eir := rfl
@[simp] theorem State.ret_mem : (s.ret).mem = s.mem := rfl
@[simp] theorem State.ret_ioWrites : (s.ret).ioWrites = s.ioWrites := rfl
@[simp] theorem State.ret_ioReads : (s.ret).ioReads = s.ioReads := rfl
@[simp] theorem State.ret_irq : (s.ret).irq = s.irq := rfl
@[simp] theorem State.ret_translation : (s.ret).translation = s.translation := rfl
@[simp] theorem State.ret_draws : (s.ret).draws = s.draws := rfl

/-! A return changes PC, `inhibit` and SP. -/

@[simp] theorem State.retIf_main (c : Ctx) (n : Nat) (b : Bool) : (s.retIf c n b).main = s.main := by cases b <;> rfl
@[simp] theorem State.retIf_alt (c : Ctx) (n : Nat) (b : Bool) : (s.retIf c n b).alt = s.alt := by cases b <;> rfl
@[simp] theorem State.retIf_ix (c : Ctx) (n : Nat) (b : Bool) : (s.retIf c n b).ix = s.ix := by cases b <;> rfl
@[simp] theorem State.retIf_iy (c : Ctx) (n : Nat) (b : Bool) : (s.retIf c n b).iy = s.iy := by cases b <;> rfl
@[simp] theorem State.retIf_xpc (c : Ctx) (n : Nat) (b : Bool) : (s.retIf c n b).xpc = s.xpc := by cases b <;> rfl
@[simp] theorem State.retIf_ip (c : Ctx) (n : Nat) (b : Bool) : (s.retIf c n b).ip = s.ip := by cases b <;> rfl
@[simp] theorem State.retIf_iir (c : Ctx) (n : Nat) (b : Bool) : (s.retIf c n b).iir = s.iir := by cases b <;> rfl
@[simp] theorem State.retIf_eir (c : Ctx) (n : Nat) (b : Bool) : (s.retIf c n b).eir = s.eir := by cases b <;> rfl
@[simp] theorem State.retIf_mem (c : Ctx) (n : Nat) (b : Bool) : (s.retIf c n b).mem = s.mem := by cases b <;> rfl
@[simp] theorem State.retIf_ioWrites (c : Ctx) (n : Nat) (b : Bool) : (s.retIf c n b).ioWrites = s.ioWrites :=
  by cases b <;> rfl
@[simp] theorem State.retIf_ioReads (c : Ctx) (n : Nat) (b : Bool) : (s.retIf c n b).ioReads = s.ioReads :=
  by cases b <;> rfl
@[simp] theorem State.retIf_irq (c : Ctx) (n : Nat) (b : Bool) : (s.retIf c n b).irq = s.irq := by cases b <;> rfl
@[simp] theorem State.retIf_translation (c : Ctx) (n : Nat) (b : Bool) : (s.retIf c n b).translation = s.translation :=
  by cases b <;> rfl
@[simp] theorem State.retIf_draws (c : Ctx) (n : Nat) (b : Bool) : (s.retIf c n b).draws = s.draws :=
  by cases b <;> rfl

/-! A read through `RdS` changes the count of I/O reads at most. -/

@[simp] theorem State.afterRead_main (c : Ctx) (n : Nat) : (s.afterRead c n).main = s.main :=
  by unfold State.afterRead; split <;> rfl
@[simp] theorem State.afterRead_alt (c : Ctx) (n : Nat) : (s.afterRead c n).alt = s.alt :=
  by unfold State.afterRead; split <;> rfl
@[simp] theorem State.afterRead_ix (c : Ctx) (n : Nat) : (s.afterRead c n).ix = s.ix :=
  by unfold State.afterRead; split <;> rfl
@[simp] theorem State.afterRead_iy (c : Ctx) (n : Nat) : (s.afterRead c n).iy = s.iy :=
  by unfold State.afterRead; split <;> rfl
@[simp] theorem State.afterRead_sp (c : Ctx) (n : Nat) : (s.afterRead c n).sp = s.sp :=
  by unfold State.afterRead; split <;> rfl
@[simp] theorem State.afterRead_pc (c : Ctx) (n : Nat) : (s.afterRead c n).pc = s.pc :=
  by unfold State.afterRead; split <;> rfl
@[simp] theorem State.afterRead_xpc (c : Ctx) (n : Nat) : (s.afterRead c n).xpc = s.xpc :=
  by unfold State.afterRead; split <;> rfl
@[simp] theorem State.afterRead_ip (c : Ctx) (n : Nat) : (s.afterRead c n).ip = s.ip :=
  by unfold State.afterRead; split <;> rfl
@[simp] theorem State.afterRead_iir (c : Ctx) (n : Nat) : (s.afterRead c n).iir = s.iir :=
  by unfold State.afterRead; split <;> rfl
@[simp] theorem State.afterRead_eir (c : Ctx) (n : Nat) : (s.afterRead c n).eir = s.eir :=
  by unfold State.afterRead; split <;> rfl
@[simp] theorem State.afterRead_mem (c : Ctx) (n : Nat) : (s.afterRead c n).mem = s.mem :=
  by unfold State.afterRead; split <;> rfl
@[simp] theorem State.afterRead_inhibit (c : Ctx) (n : Nat) : (s.afterRead c n).inhibit = s.inhibit :=
  by unfold State.afterRead; split <;> rfl
@[simp] theorem State.afterRead_ioWrites (c : Ctx) (n : Nat) : (s.afterRead c n).ioWrites = s.ioWrites :=
  by unfold State.afterRead; split <;> rfl
@[simp] theorem State.afterRead_irq (c : Ctx) (n : Nat) : (s.afterRead c n).irq = s.irq :=
  by unfold State.afterRead; split <;> rfl
@[simp] theorem State.afterRead_translation (c : Ctx) (n : Nat) : (s.afterRead c n).translation = s.translation :=
  by unfold State.afterRead; split <;> rfl
@[simp] theorem State.afterRead_draws (c : Ctx) (n : Nat) : (s.afterRead c n).draws = s.draws :=
  by unfold State.afterRead; split <;> rfl

/-! A write through `WrD` changes memory, or the I/O events. -/

@[simp] theorem State.wrD8_main (c : Ctx) (a : Word) (v : Byte) : (s.wrD8 c a v).main = s.main :=
  by unfold State.wrD8; split <;> rfl
@[simp] theorem State.wrD8_alt (c : Ctx) (a : Word) (v : Byte) : (s.wrD8 c a v).alt = s.alt :=
  by unfold State.wrD8; split <;> rfl
@[simp] theorem State.wrD8_ix (c : Ctx) (a : Word) (v : Byte) : (s.wrD8 c a v).ix = s.ix :=
  by unfold State.wrD8; split <;> rfl
@[simp] theorem State.wrD8_iy (c : Ctx) (a : Word) (v : Byte) : (s.wrD8 c a v).iy = s.iy :=
  by unfold State.wrD8; split <;> rfl
@[simp] theorem State.wrD8_sp (c : Ctx) (a : Word) (v : Byte) : (s.wrD8 c a v).sp = s.sp :=
  by unfold State.wrD8; split <;> rfl
@[simp] theorem State.wrD8_pc (c : Ctx) (a : Word) (v : Byte) : (s.wrD8 c a v).pc = s.pc :=
  by unfold State.wrD8; split <;> rfl
@[simp] theorem State.wrD8_xpc (c : Ctx) (a : Word) (v : Byte) : (s.wrD8 c a v).xpc = s.xpc :=
  by unfold State.wrD8; split <;> rfl
@[simp] theorem State.wrD8_ip (c : Ctx) (a : Word) (v : Byte) : (s.wrD8 c a v).ip = s.ip :=
  by unfold State.wrD8; split <;> rfl
@[simp] theorem State.wrD8_iir (c : Ctx) (a : Word) (v : Byte) : (s.wrD8 c a v).iir = s.iir :=
  by unfold State.wrD8; split <;> rfl
@[simp] theorem State.wrD8_eir (c : Ctx) (a : Word) (v : Byte) : (s.wrD8 c a v).eir = s.eir :=
  by unfold State.wrD8; split <;> rfl
@[simp] theorem State.wrD8_inhibit (c : Ctx) (a : Word) (v : Byte) : (s.wrD8 c a v).inhibit = s.inhibit :=
  by unfold State.wrD8; split <;> rfl
@[simp] theorem State.wrD8_ioReads (c : Ctx) (a : Word) (v : Byte) : (s.wrD8 c a v).ioReads = s.ioReads :=
  by unfold State.wrD8; split <;> rfl
@[simp] theorem State.wrD8_irq (c : Ctx) (a : Word) (v : Byte) : (s.wrD8 c a v).irq = s.irq :=
  by unfold State.wrD8; split <;> rfl
@[simp] theorem State.wrD8_translation (c : Ctx) (a : Word) (v : Byte) : (s.wrD8 c a v).translation = s.translation :=
  by unfold State.wrD8; split <;> rfl
@[simp] theorem State.wrD8_draws (c : Ctx) (a : Word) (v : Byte) : (s.wrD8 c a v).draws = s.draws :=
  by unfold State.wrD8; split <;> rfl

/-! A write through `WrD` changes memory, or the I/O events. -/

@[simp] theorem State.wrD16_main (c : Ctx) (a v : Word) : (s.wrD16 c a v).main = s.main := by simp [State.wrD16]
@[simp] theorem State.wrD16_alt (c : Ctx) (a v : Word) : (s.wrD16 c a v).alt = s.alt := by simp [State.wrD16]
@[simp] theorem State.wrD16_ix (c : Ctx) (a v : Word) : (s.wrD16 c a v).ix = s.ix := by simp [State.wrD16]
@[simp] theorem State.wrD16_iy (c : Ctx) (a v : Word) : (s.wrD16 c a v).iy = s.iy := by simp [State.wrD16]
@[simp] theorem State.wrD16_sp (c : Ctx) (a v : Word) : (s.wrD16 c a v).sp = s.sp := by simp [State.wrD16]
@[simp] theorem State.wrD16_pc (c : Ctx) (a v : Word) : (s.wrD16 c a v).pc = s.pc := by simp [State.wrD16]
@[simp] theorem State.wrD16_xpc (c : Ctx) (a v : Word) : (s.wrD16 c a v).xpc = s.xpc := by simp [State.wrD16]
@[simp] theorem State.wrD16_ip (c : Ctx) (a v : Word) : (s.wrD16 c a v).ip = s.ip := by simp [State.wrD16]
@[simp] theorem State.wrD16_iir (c : Ctx) (a v : Word) : (s.wrD16 c a v).iir = s.iir := by simp [State.wrD16]
@[simp] theorem State.wrD16_eir (c : Ctx) (a v : Word) : (s.wrD16 c a v).eir = s.eir := by simp [State.wrD16]
@[simp] theorem State.wrD16_inhibit (c : Ctx) (a v : Word) : (s.wrD16 c a v).inhibit = s.inhibit :=
  by simp [State.wrD16]
@[simp] theorem State.wrD16_ioReads (c : Ctx) (a v : Word) : (s.wrD16 c a v).ioReads = s.ioReads :=
  by simp [State.wrD16]
@[simp] theorem State.wrD16_irq (c : Ctx) (a v : Word) : (s.wrD16 c a v).irq = s.irq := by simp [State.wrD16]
@[simp] theorem State.wrD16_translation (c : Ctx) (a v : Word) : (s.wrD16 c a v).translation = s.translation :=
  by simp [State.wrD16]
@[simp] theorem State.wrD16_draws (c : Ctx) (a v : Word) : (s.wrD16 c a v).draws = s.draws := by simp [State.wrD16]

/-! A load changes its destination, and the count of I/O reads. -/

@[simp] theorem State.loadR8_ix (c : Ctx) (r : R8) (a : Word) : (s.loadR8 c r a).ix = s.ix := by simp [State.loadR8]
@[simp] theorem State.loadR8_iy (c : Ctx) (r : R8) (a : Word) : (s.loadR8 c r a).iy = s.iy := by simp [State.loadR8]
@[simp] theorem State.loadR8_sp (c : Ctx) (r : R8) (a : Word) : (s.loadR8 c r a).sp = s.sp := by simp [State.loadR8]
@[simp] theorem State.loadR8_pc (c : Ctx) (r : R8) (a : Word) : (s.loadR8 c r a).pc = s.pc := by simp [State.loadR8]
@[simp] theorem State.loadR8_xpc (c : Ctx) (r : R8) (a : Word) : (s.loadR8 c r a).xpc = s.xpc :=
  by simp [State.loadR8]
@[simp] theorem State.loadR8_ip (c : Ctx) (r : R8) (a : Word) : (s.loadR8 c r a).ip = s.ip := by simp [State.loadR8]
@[simp] theorem State.loadR8_iir (c : Ctx) (r : R8) (a : Word) : (s.loadR8 c r a).iir = s.iir :=
  by simp [State.loadR8]
@[simp] theorem State.loadR8_eir (c : Ctx) (r : R8) (a : Word) : (s.loadR8 c r a).eir = s.eir :=
  by simp [State.loadR8]
@[simp] theorem State.loadR8_mem (c : Ctx) (r : R8) (a : Word) : (s.loadR8 c r a).mem = s.mem :=
  by simp [State.loadR8]
@[simp] theorem State.loadR8_inhibit (c : Ctx) (r : R8) (a : Word) : (s.loadR8 c r a).inhibit = s.inhibit :=
  by simp [State.loadR8]
@[simp] theorem State.loadR8_ioWrites (c : Ctx) (r : R8) (a : Word) : (s.loadR8 c r a).ioWrites = s.ioWrites :=
  by simp [State.loadR8]
@[simp] theorem State.loadR8_irq (c : Ctx) (r : R8) (a : Word) : (s.loadR8 c r a).irq = s.irq :=
  by simp [State.loadR8]
@[simp] theorem State.loadR8_translation (c : Ctx) (r : R8) (a : Word) : (s.loadR8 c r a).translation = s.translation :=
  by simp [State.loadR8]
@[simp] theorem State.loadR8_draws (c : Ctx) (r : R8) (a : Word) : (s.loadR8 c r a).draws = s.draws :=
  by simp [State.loadR8]

/-! A load changes its destination, and the count of I/O reads. -/

@[simp] theorem State.loadSS_ix (c : Ctx) (dd : SS) (a : Word) : (s.loadSS c dd a).ix = s.ix := by simp [State.loadSS]
@[simp] theorem State.loadSS_iy (c : Ctx) (dd : SS) (a : Word) : (s.loadSS c dd a).iy = s.iy := by simp [State.loadSS]
@[simp] theorem State.loadSS_pc (c : Ctx) (dd : SS) (a : Word) : (s.loadSS c dd a).pc = s.pc := by simp [State.loadSS]
@[simp] theorem State.loadSS_xpc (c : Ctx) (dd : SS) (a : Word) : (s.loadSS c dd a).xpc = s.xpc :=
  by simp [State.loadSS]
@[simp] theorem State.loadSS_ip (c : Ctx) (dd : SS) (a : Word) : (s.loadSS c dd a).ip = s.ip := by simp [State.loadSS]
@[simp] theorem State.loadSS_iir (c : Ctx) (dd : SS) (a : Word) : (s.loadSS c dd a).iir = s.iir :=
  by simp [State.loadSS]
@[simp] theorem State.loadSS_eir (c : Ctx) (dd : SS) (a : Word) : (s.loadSS c dd a).eir = s.eir :=
  by simp [State.loadSS]
@[simp] theorem State.loadSS_mem (c : Ctx) (dd : SS) (a : Word) : (s.loadSS c dd a).mem = s.mem :=
  by simp [State.loadSS]
@[simp] theorem State.loadSS_inhibit (c : Ctx) (dd : SS) (a : Word) : (s.loadSS c dd a).inhibit = s.inhibit :=
  by simp [State.loadSS]
@[simp] theorem State.loadSS_ioWrites (c : Ctx) (dd : SS) (a : Word) : (s.loadSS c dd a).ioWrites = s.ioWrites :=
  by simp [State.loadSS]
@[simp] theorem State.loadSS_irq (c : Ctx) (dd : SS) (a : Word) : (s.loadSS c dd a).irq = s.irq :=
  by simp [State.loadSS]
@[simp] theorem State.loadSS_translation (c : Ctx) (dd : SS) (a : Word) : (s.loadSS c dd a).translation = s.translation :=
  by simp [State.loadSS]
@[simp] theorem State.loadSS_draws (c : Ctx) (dd : SS) (a : Word) : (s.loadSS c dd a).draws = s.draws :=
  by simp [State.loadSS]

/-! A load changes its destination, and the count of I/O reads. -/

@[simp] theorem State.loadIX_main (c : Ctx) (a : Word) : (s.loadIX c a).main = s.main := by simp [State.loadIX]
@[simp] theorem State.loadIX_alt (c : Ctx) (a : Word) : (s.loadIX c a).alt = s.alt := by simp [State.loadIX]
@[simp] theorem State.loadIX_iy (c : Ctx) (a : Word) : (s.loadIX c a).iy = s.iy := by simp [State.loadIX]
@[simp] theorem State.loadIX_sp (c : Ctx) (a : Word) : (s.loadIX c a).sp = s.sp := by simp [State.loadIX]
@[simp] theorem State.loadIX_pc (c : Ctx) (a : Word) : (s.loadIX c a).pc = s.pc := by simp [State.loadIX]
@[simp] theorem State.loadIX_xpc (c : Ctx) (a : Word) : (s.loadIX c a).xpc = s.xpc := by simp [State.loadIX]
@[simp] theorem State.loadIX_ip (c : Ctx) (a : Word) : (s.loadIX c a).ip = s.ip := by simp [State.loadIX]
@[simp] theorem State.loadIX_iir (c : Ctx) (a : Word) : (s.loadIX c a).iir = s.iir := by simp [State.loadIX]
@[simp] theorem State.loadIX_eir (c : Ctx) (a : Word) : (s.loadIX c a).eir = s.eir := by simp [State.loadIX]
@[simp] theorem State.loadIX_mem (c : Ctx) (a : Word) : (s.loadIX c a).mem = s.mem := by simp [State.loadIX]
@[simp] theorem State.loadIX_inhibit (c : Ctx) (a : Word) : (s.loadIX c a).inhibit = s.inhibit :=
  by simp [State.loadIX]
@[simp] theorem State.loadIX_ioWrites (c : Ctx) (a : Word) : (s.loadIX c a).ioWrites = s.ioWrites :=
  by simp [State.loadIX]
@[simp] theorem State.loadIX_irq (c : Ctx) (a : Word) : (s.loadIX c a).irq = s.irq := by simp [State.loadIX]
@[simp] theorem State.loadIX_translation (c : Ctx) (a : Word) : (s.loadIX c a).translation = s.translation :=
  by simp [State.loadIX]
@[simp] theorem State.loadIX_draws (c : Ctx) (a : Word) : (s.loadIX c a).draws = s.draws := by simp [State.loadIX]

/-! A load changes its destination, and the count of I/O reads. -/

@[simp] theorem State.loadIY_main (c : Ctx) (a : Word) : (s.loadIY c a).main = s.main := by simp [State.loadIY]
@[simp] theorem State.loadIY_alt (c : Ctx) (a : Word) : (s.loadIY c a).alt = s.alt := by simp [State.loadIY]
@[simp] theorem State.loadIY_ix (c : Ctx) (a : Word) : (s.loadIY c a).ix = s.ix := by simp [State.loadIY]
@[simp] theorem State.loadIY_sp (c : Ctx) (a : Word) : (s.loadIY c a).sp = s.sp := by simp [State.loadIY]
@[simp] theorem State.loadIY_pc (c : Ctx) (a : Word) : (s.loadIY c a).pc = s.pc := by simp [State.loadIY]
@[simp] theorem State.loadIY_xpc (c : Ctx) (a : Word) : (s.loadIY c a).xpc = s.xpc := by simp [State.loadIY]
@[simp] theorem State.loadIY_ip (c : Ctx) (a : Word) : (s.loadIY c a).ip = s.ip := by simp [State.loadIY]
@[simp] theorem State.loadIY_iir (c : Ctx) (a : Word) : (s.loadIY c a).iir = s.iir := by simp [State.loadIY]
@[simp] theorem State.loadIY_eir (c : Ctx) (a : Word) : (s.loadIY c a).eir = s.eir := by simp [State.loadIY]
@[simp] theorem State.loadIY_mem (c : Ctx) (a : Word) : (s.loadIY c a).mem = s.mem := by simp [State.loadIY]
@[simp] theorem State.loadIY_inhibit (c : Ctx) (a : Word) : (s.loadIY c a).inhibit = s.inhibit :=
  by simp [State.loadIY]
@[simp] theorem State.loadIY_ioWrites (c : Ctx) (a : Word) : (s.loadIY c a).ioWrites = s.ioWrites :=
  by simp [State.loadIY]
@[simp] theorem State.loadIY_irq (c : Ctx) (a : Word) : (s.loadIY c a).irq = s.irq := by simp [State.loadIY]
@[simp] theorem State.loadIY_translation (c : Ctx) (a : Word) : (s.loadIY c a).translation = s.translation :=
  by simp [State.loadIY]
@[simp] theorem State.loadIY_draws (c : Ctx) (a : Word) : (s.loadIY c a).draws = s.draws := by simp [State.loadIY]

/-! An 8-bit operation changes one of the two register sets. -/

@[simp] theorem State.alu_ix (c : Ctx) (op : AluOp) (x : Byte) : (s.alu c op x).ix = s.ix := by cases op <;> rfl
@[simp] theorem State.alu_iy (c : Ctx) (op : AluOp) (x : Byte) : (s.alu c op x).iy = s.iy := by cases op <;> rfl
@[simp] theorem State.alu_sp (c : Ctx) (op : AluOp) (x : Byte) : (s.alu c op x).sp = s.sp := by cases op <;> rfl
@[simp] theorem State.alu_pc (c : Ctx) (op : AluOp) (x : Byte) : (s.alu c op x).pc = s.pc := by cases op <;> rfl
@[simp] theorem State.alu_xpc (c : Ctx) (op : AluOp) (x : Byte) : (s.alu c op x).xpc = s.xpc := by cases op <;> rfl
@[simp] theorem State.alu_ip (c : Ctx) (op : AluOp) (x : Byte) : (s.alu c op x).ip = s.ip := by cases op <;> rfl
@[simp] theorem State.alu_iir (c : Ctx) (op : AluOp) (x : Byte) : (s.alu c op x).iir = s.iir := by cases op <;> rfl
@[simp] theorem State.alu_eir (c : Ctx) (op : AluOp) (x : Byte) : (s.alu c op x).eir = s.eir := by cases op <;> rfl
@[simp] theorem State.alu_mem (c : Ctx) (op : AluOp) (x : Byte) : (s.alu c op x).mem = s.mem := by cases op <;> rfl
@[simp] theorem State.alu_inhibit (c : Ctx) (op : AluOp) (x : Byte) : (s.alu c op x).inhibit = s.inhibit :=
  by cases op <;> rfl
@[simp] theorem State.alu_ioWrites (c : Ctx) (op : AluOp) (x : Byte) : (s.alu c op x).ioWrites = s.ioWrites :=
  by cases op <;> rfl
@[simp] theorem State.alu_ioReads (c : Ctx) (op : AluOp) (x : Byte) : (s.alu c op x).ioReads = s.ioReads :=
  by cases op <;> rfl
@[simp] theorem State.alu_irq (c : Ctx) (op : AluOp) (x : Byte) : (s.alu c op x).irq = s.irq := by cases op <;> rfl
@[simp] theorem State.alu_translation (c : Ctx) (op : AluOp) (x : Byte) : (s.alu c op x).translation = s.translation :=
  by cases op <;> rfl
@[simp] theorem State.alu_draws (c : Ctx) (op : AluOp) (x : Byte) : (s.alu c op x).draws = s.draws :=
  by cases op <;> rfl

/-! The memory form also counts an I/O read. -/

@[simp] theorem State.aluMem_ix (c : Ctx) (op : AluOp) (a : Word) : (s.aluMem c op a).ix = s.ix :=
  by simp [State.aluMem]
@[simp] theorem State.aluMem_iy (c : Ctx) (op : AluOp) (a : Word) : (s.aluMem c op a).iy = s.iy :=
  by simp [State.aluMem]
@[simp] theorem State.aluMem_sp (c : Ctx) (op : AluOp) (a : Word) : (s.aluMem c op a).sp = s.sp :=
  by simp [State.aluMem]
@[simp] theorem State.aluMem_pc (c : Ctx) (op : AluOp) (a : Word) : (s.aluMem c op a).pc = s.pc :=
  by simp [State.aluMem]
@[simp] theorem State.aluMem_xpc (c : Ctx) (op : AluOp) (a : Word) : (s.aluMem c op a).xpc = s.xpc :=
  by simp [State.aluMem]
@[simp] theorem State.aluMem_ip (c : Ctx) (op : AluOp) (a : Word) : (s.aluMem c op a).ip = s.ip :=
  by simp [State.aluMem]
@[simp] theorem State.aluMem_iir (c : Ctx) (op : AluOp) (a : Word) : (s.aluMem c op a).iir = s.iir :=
  by simp [State.aluMem]
@[simp] theorem State.aluMem_eir (c : Ctx) (op : AluOp) (a : Word) : (s.aluMem c op a).eir = s.eir :=
  by simp [State.aluMem]
@[simp] theorem State.aluMem_mem (c : Ctx) (op : AluOp) (a : Word) : (s.aluMem c op a).mem = s.mem :=
  by simp [State.aluMem]
@[simp] theorem State.aluMem_inhibit (c : Ctx) (op : AluOp) (a : Word) : (s.aluMem c op a).inhibit = s.inhibit :=
  by simp [State.aluMem]
@[simp] theorem State.aluMem_ioWrites (c : Ctx) (op : AluOp) (a : Word) : (s.aluMem c op a).ioWrites = s.ioWrites :=
  by simp [State.aluMem]
@[simp] theorem State.aluMem_irq (c : Ctx) (op : AluOp) (a : Word) : (s.aluMem c op a).irq = s.irq :=
  by simp [State.aluMem]
@[simp] theorem State.aluMem_translation (c : Ctx) (op : AluOp) (a : Word) : (s.aluMem c op a).translation = s.translation :=
  by simp [State.aluMem]
@[simp] theorem State.aluMem_draws (c : Ctx) (op : AluOp) (a : Word) : (s.aluMem c op a).draws = s.draws :=
  by simp [State.aluMem]

/-! A read-modify-write changes memory, or I/O events and the count of I/O reads. -/

@[simp] theorem State.rmw_main (c : Ctx) (a : Word) (g : Byte → Byte) : (s.rmw c a g).main = s.main :=
  by simp [State.rmw]
@[simp] theorem State.rmw_alt (c : Ctx) (a : Word) (g : Byte → Byte) : (s.rmw c a g).alt = s.alt :=
  by simp [State.rmw]
@[simp] theorem State.rmw_ix (c : Ctx) (a : Word) (g : Byte → Byte) : (s.rmw c a g).ix = s.ix := by simp [State.rmw]
@[simp] theorem State.rmw_iy (c : Ctx) (a : Word) (g : Byte → Byte) : (s.rmw c a g).iy = s.iy := by simp [State.rmw]
@[simp] theorem State.rmw_sp (c : Ctx) (a : Word) (g : Byte → Byte) : (s.rmw c a g).sp = s.sp := by simp [State.rmw]
@[simp] theorem State.rmw_pc (c : Ctx) (a : Word) (g : Byte → Byte) : (s.rmw c a g).pc = s.pc := by simp [State.rmw]
@[simp] theorem State.rmw_xpc (c : Ctx) (a : Word) (g : Byte → Byte) : (s.rmw c a g).xpc = s.xpc :=
  by simp [State.rmw]
@[simp] theorem State.rmw_ip (c : Ctx) (a : Word) (g : Byte → Byte) : (s.rmw c a g).ip = s.ip := by simp [State.rmw]
@[simp] theorem State.rmw_iir (c : Ctx) (a : Word) (g : Byte → Byte) : (s.rmw c a g).iir = s.iir :=
  by simp [State.rmw]
@[simp] theorem State.rmw_eir (c : Ctx) (a : Word) (g : Byte → Byte) : (s.rmw c a g).eir = s.eir :=
  by simp [State.rmw]
@[simp] theorem State.rmw_inhibit (c : Ctx) (a : Word) (g : Byte → Byte) : (s.rmw c a g).inhibit = s.inhibit :=
  by simp [State.rmw]
@[simp] theorem State.rmw_irq (c : Ctx) (a : Word) (g : Byte → Byte) : (s.rmw c a g).irq = s.irq :=
  by simp [State.rmw]
@[simp] theorem State.rmw_translation (c : Ctx) (a : Word) (g : Byte → Byte) : (s.rmw c a g).translation = s.translation :=
  by simp [State.rmw]
@[simp] theorem State.rmw_draws (c : Ctx) (a : Word) (g : Byte → Byte) : (s.rmw c a g).draws = s.draws :=
  by simp [State.rmw]

/-! `BIT` changes F or F', and counts an I/O read. -/

@[simp] theorem State.bitMem_ix (c : Ctx) (b : BitVec 3) (a : Word) : (s.bitMem c b a).ix = s.ix :=
  by simp [State.bitMem]
@[simp] theorem State.bitMem_iy (c : Ctx) (b : BitVec 3) (a : Word) : (s.bitMem c b a).iy = s.iy :=
  by simp [State.bitMem]
@[simp] theorem State.bitMem_sp (c : Ctx) (b : BitVec 3) (a : Word) : (s.bitMem c b a).sp = s.sp :=
  by simp [State.bitMem]
@[simp] theorem State.bitMem_pc (c : Ctx) (b : BitVec 3) (a : Word) : (s.bitMem c b a).pc = s.pc :=
  by simp [State.bitMem]
@[simp] theorem State.bitMem_xpc (c : Ctx) (b : BitVec 3) (a : Word) : (s.bitMem c b a).xpc = s.xpc :=
  by simp [State.bitMem]
@[simp] theorem State.bitMem_ip (c : Ctx) (b : BitVec 3) (a : Word) : (s.bitMem c b a).ip = s.ip :=
  by simp [State.bitMem]
@[simp] theorem State.bitMem_iir (c : Ctx) (b : BitVec 3) (a : Word) : (s.bitMem c b a).iir = s.iir :=
  by simp [State.bitMem]
@[simp] theorem State.bitMem_eir (c : Ctx) (b : BitVec 3) (a : Word) : (s.bitMem c b a).eir = s.eir :=
  by simp [State.bitMem]
@[simp] theorem State.bitMem_mem (c : Ctx) (b : BitVec 3) (a : Word) : (s.bitMem c b a).mem = s.mem :=
  by simp [State.bitMem]
@[simp] theorem State.bitMem_inhibit (c : Ctx) (b : BitVec 3) (a : Word) : (s.bitMem c b a).inhibit = s.inhibit :=
  by simp [State.bitMem]
@[simp] theorem State.bitMem_ioWrites (c : Ctx) (b : BitVec 3) (a : Word) : (s.bitMem c b a).ioWrites = s.ioWrites :=
  by simp [State.bitMem]
@[simp] theorem State.bitMem_irq (c : Ctx) (b : BitVec 3) (a : Word) : (s.bitMem c b a).irq = s.irq :=
  by simp [State.bitMem]
@[simp] theorem State.bitMem_translation (c : Ctx) (b : BitVec 3) (a : Word) : (s.bitMem c b a).translation = s.translation :=
  by simp [State.bitMem]
@[simp] theorem State.bitMem_draws (c : Ctx) (b : BitVec 3) (a : Word) : (s.bitMem c b a).draws = s.draws :=
  by simp [State.bitMem]

/-! `INC` of memory changes F or F' and its operand. -/

@[simp] theorem State.incMem_ix (c : Ctx) (a : Word) : (s.incMem c a).ix = s.ix := by simp [State.incMem]
@[simp] theorem State.incMem_iy (c : Ctx) (a : Word) : (s.incMem c a).iy = s.iy := by simp [State.incMem]
@[simp] theorem State.incMem_sp (c : Ctx) (a : Word) : (s.incMem c a).sp = s.sp := by simp [State.incMem]
@[simp] theorem State.incMem_pc (c : Ctx) (a : Word) : (s.incMem c a).pc = s.pc := by simp [State.incMem]
@[simp] theorem State.incMem_xpc (c : Ctx) (a : Word) : (s.incMem c a).xpc = s.xpc := by simp [State.incMem]
@[simp] theorem State.incMem_ip (c : Ctx) (a : Word) : (s.incMem c a).ip = s.ip := by simp [State.incMem]
@[simp] theorem State.incMem_iir (c : Ctx) (a : Word) : (s.incMem c a).iir = s.iir := by simp [State.incMem]
@[simp] theorem State.incMem_eir (c : Ctx) (a : Word) : (s.incMem c a).eir = s.eir := by simp [State.incMem]
@[simp] theorem State.incMem_inhibit (c : Ctx) (a : Word) : (s.incMem c a).inhibit = s.inhibit :=
  by simp [State.incMem]
@[simp] theorem State.incMem_irq (c : Ctx) (a : Word) : (s.incMem c a).irq = s.irq := by simp [State.incMem]
@[simp] theorem State.incMem_translation (c : Ctx) (a : Word) : (s.incMem c a).translation = s.translation :=
  by simp [State.incMem]
@[simp] theorem State.incMem_draws (c : Ctx) (a : Word) : (s.incMem c a).draws = s.draws := by simp [State.incMem]

/-! `DEC` of memory changes F or F' and its operand. -/

@[simp] theorem State.decMem_ix (c : Ctx) (a : Word) : (s.decMem c a).ix = s.ix := by simp [State.decMem]
@[simp] theorem State.decMem_iy (c : Ctx) (a : Word) : (s.decMem c a).iy = s.iy := by simp [State.decMem]
@[simp] theorem State.decMem_sp (c : Ctx) (a : Word) : (s.decMem c a).sp = s.sp := by simp [State.decMem]
@[simp] theorem State.decMem_pc (c : Ctx) (a : Word) : (s.decMem c a).pc = s.pc := by simp [State.decMem]
@[simp] theorem State.decMem_xpc (c : Ctx) (a : Word) : (s.decMem c a).xpc = s.xpc := by simp [State.decMem]
@[simp] theorem State.decMem_ip (c : Ctx) (a : Word) : (s.decMem c a).ip = s.ip := by simp [State.decMem]
@[simp] theorem State.decMem_iir (c : Ctx) (a : Word) : (s.decMem c a).iir = s.iir := by simp [State.decMem]
@[simp] theorem State.decMem_eir (c : Ctx) (a : Word) : (s.decMem c a).eir = s.eir := by simp [State.decMem]
@[simp] theorem State.decMem_inhibit (c : Ctx) (a : Word) : (s.decMem c a).inhibit = s.inhibit :=
  by simp [State.decMem]
@[simp] theorem State.decMem_irq (c : Ctx) (a : Word) : (s.decMem c a).irq = s.irq := by simp [State.decMem]
@[simp] theorem State.decMem_translation (c : Ctx) (a : Word) : (s.decMem c a).translation = s.translation :=
  by simp [State.decMem]
@[simp] theorem State.decMem_draws (c : Ctx) (a : Word) : (s.decMem c a).draws = s.draws := by simp [State.decMem]

/-! A shift of memory changes F or F' and its operand. -/

@[simp] theorem State.shiftMem_ix (c : Ctx) (op : ShiftOp) (a : Word) : (s.shiftMem c op a).ix = s.ix :=
  by simp [State.shiftMem]
@[simp] theorem State.shiftMem_iy (c : Ctx) (op : ShiftOp) (a : Word) : (s.shiftMem c op a).iy = s.iy :=
  by simp [State.shiftMem]
@[simp] theorem State.shiftMem_sp (c : Ctx) (op : ShiftOp) (a : Word) : (s.shiftMem c op a).sp = s.sp :=
  by simp [State.shiftMem]
@[simp] theorem State.shiftMem_pc (c : Ctx) (op : ShiftOp) (a : Word) : (s.shiftMem c op a).pc = s.pc :=
  by simp [State.shiftMem]
@[simp] theorem State.shiftMem_xpc (c : Ctx) (op : ShiftOp) (a : Word) : (s.shiftMem c op a).xpc = s.xpc :=
  by simp [State.shiftMem]
@[simp] theorem State.shiftMem_ip (c : Ctx) (op : ShiftOp) (a : Word) : (s.shiftMem c op a).ip = s.ip :=
  by simp [State.shiftMem]
@[simp] theorem State.shiftMem_iir (c : Ctx) (op : ShiftOp) (a : Word) : (s.shiftMem c op a).iir = s.iir :=
  by simp [State.shiftMem]
@[simp] theorem State.shiftMem_eir (c : Ctx) (op : ShiftOp) (a : Word) : (s.shiftMem c op a).eir = s.eir :=
  by simp [State.shiftMem]
@[simp] theorem State.shiftMem_inhibit (c : Ctx) (op : ShiftOp) (a : Word) : (s.shiftMem c op a).inhibit = s.inhibit :=
  by simp [State.shiftMem]
@[simp] theorem State.shiftMem_irq (c : Ctx) (op : ShiftOp) (a : Word) : (s.shiftMem c op a).irq = s.irq :=
  by simp [State.shiftMem]
@[simp] theorem State.shiftMem_translation (c : Ctx) (op : ShiftOp) (a : Word) : (s.shiftMem c op a).translation = s.translation :=
  by simp [State.shiftMem]
@[simp] theorem State.shiftMem_draws (c : Ctx) (op : ShiftOp) (a : Word) : (s.shiftMem c op a).draws = s.draws :=
  by simp [State.shiftMem]

/-! A block-move step changes the main set, and memory or the I/O events; the alternate set is `moveStep_alt`. -/

@[simp] theorem State.moveStep_alt (c : Ctx) (d : Dir) : (s.moveStep c d).alt = s.alt := State.wrD8_alt s c _ _
@[simp] theorem State.moveStep_ix (c : Ctx) (d : Dir) : (s.moveStep c d).ix = s.ix := by simp [State.moveStep]
@[simp] theorem State.moveStep_iy (c : Ctx) (d : Dir) : (s.moveStep c d).iy = s.iy := by simp [State.moveStep]
@[simp] theorem State.moveStep_sp (c : Ctx) (d : Dir) : (s.moveStep c d).sp = s.sp := State.wrD8_sp s c _ _
@[simp] theorem State.moveStep_pc (c : Ctx) (d : Dir) : (s.moveStep c d).pc = s.pc := by simp [State.moveStep]
@[simp] theorem State.moveStep_xpc (c : Ctx) (d : Dir) : (s.moveStep c d).xpc = s.xpc := by simp [State.moveStep]
@[simp] theorem State.moveStep_ip (c : Ctx) (d : Dir) : (s.moveStep c d).ip = s.ip := by simp [State.moveStep]
@[simp] theorem State.moveStep_iir (c : Ctx) (d : Dir) : (s.moveStep c d).iir = s.iir := by simp [State.moveStep]
@[simp] theorem State.moveStep_eir (c : Ctx) (d : Dir) : (s.moveStep c d).eir = s.eir := by simp [State.moveStep]
@[simp] theorem State.moveStep_inhibit (c : Ctx) (d : Dir) : (s.moveStep c d).inhibit = s.inhibit :=
  by simp [State.moveStep]
@[simp] theorem State.moveStep_ioReads (c : Ctx) (d : Dir) : (s.moveStep c d).ioReads = s.ioReads :=
  by simp [State.moveStep]
@[simp] theorem State.moveStep_irq (c : Ctx) (d : Dir) : (s.moveStep c d).irq = s.irq := by simp [State.moveStep]
@[simp] theorem State.moveStep_translation (c : Ctx) (d : Dir) : (s.moveStep c d).translation = s.translation :=
  by simp [State.moveStep]
@[simp] theorem State.moveStep_draws (c : Ctx) (d : Dir) : (s.moveStep c d).draws = s.draws :=
  by simp [State.moveStep]

/-! Taking an interrupt changes memory, SP, IP, PC and `inhibit`. -/

@[simp] theorem State.enterInterrupt_main (q : IrqRequest) : (s.enterInterrupt q).main = s.main := rfl
@[simp] theorem State.enterInterrupt_alt (q : IrqRequest) : (s.enterInterrupt q).alt = s.alt := rfl
@[simp] theorem State.enterInterrupt_ix (q : IrqRequest) : (s.enterInterrupt q).ix = s.ix := rfl
@[simp] theorem State.enterInterrupt_iy (q : IrqRequest) : (s.enterInterrupt q).iy = s.iy := rfl
@[simp] theorem State.enterInterrupt_xpc (q : IrqRequest) : (s.enterInterrupt q).xpc = s.xpc := rfl
@[simp] theorem State.enterInterrupt_iir (q : IrqRequest) : (s.enterInterrupt q).iir = s.iir := rfl
@[simp] theorem State.enterInterrupt_eir (q : IrqRequest) : (s.enterInterrupt q).eir = s.eir := rfl
@[simp] theorem State.enterInterrupt_ioWrites (q : IrqRequest) : (s.enterInterrupt q).ioWrites = s.ioWrites := rfl
@[simp] theorem State.enterInterrupt_ioReads (q : IrqRequest) : (s.enterInterrupt q).ioReads = s.ioReads := rfl
@[simp] theorem State.enterInterrupt_irq (q : IrqRequest) : (s.enterInterrupt q).irq = s.irq := rfl
@[simp] theorem State.enterInterrupt_translation (q : IrqRequest) : (s.enterInterrupt q).translation = s.translation :=
  rfl
@[simp] theorem State.enterInterrupt_draws (q : IrqRequest) : (s.enterInterrupt q).draws = s.draws := rfl

/-! What the operations write. -/

@[simp] theorem State.setSS_main_sp (x : Bool) (v : Word) : (s.setSS x .sp v).main = s.main := rfl
@[simp] theorem State.advance_pc (c : Ctx) (n : Nat) :
    (s.advance c n).pc = s.pc + BitVec.ofNat 16 (c.plen + n) := rfl
@[simp] theorem State.advancePriv_pc (c : Ctx) (n : Nat) :
    (s.advancePriv c n).pc = s.pc + BitVec.ofNat 16 (c.plen + n) := rfl
@[simp] theorem State.jump_pc (t : Word) : (s.jump t).pc = t := rfl
@[simp] theorem State.jumpPriv_pc (t : Word) : (s.jumpPriv t).pc = t := rfl
@[simp] theorem State.advance_inhibit (c : Ctx) (n : Nat) : (s.advance c n).inhibit = false := rfl
@[simp] theorem State.advancePriv_inhibit (c : Ctx) (n : Nat) : (s.advancePriv c n).inhibit = true := rfl
@[simp] theorem State.jump_inhibit (t : Word) : (s.jump t).inhibit = false := rfl
@[simp] theorem State.jumpPriv_inhibit (t : Word) : (s.jumpPriv t).inhibit = true := rfl
@[simp] theorem State.branch_inhibit (c : Ctx) (n : Nat) (b : Bool) (t : Word) :
    (s.branch c n b t).inhibit = false := by cases b <;> rfl
@[simp] theorem State.branch_pc (c : Ctx) (n : Nat) (b : Bool) (t : Word) :
    (s.branch c n b t).pc = if b then t else s.pc + BitVec.ofNat 16 (c.plen + n) := by cases b <;> rfl
@[simp] theorem State.repeatOrAdvance_inhibit (c : Ctx) (n : Nat) : (s.repeatOrAdvance c n).inhibit = false := by
  unfold State.repeatOrAdvance; split <;> rfl
@[simp] theorem State.retIf_inhibit (c : Ctx) (n : Nat) (b : Bool) : (s.retIf c n b).inhibit = false := by
  cases b <;> rfl
@[simp] theorem State.ret_inhibit : s.ret.inhibit = false := rfl
@[simp] theorem State.ret_pc : s.ret.pc = s.mem16 s.sp := rfl
@[simp] theorem State.ret_sp : s.ret.sp = s.sp + 2 := rfl
@[simp] theorem State.push8_sp (v : Byte) : (s.push8 v).sp = s.sp - 1 := rfl
@[simp] theorem State.push16_sp (v : Word) : (s.push16 v).sp = s.sp - 2 := rfl
@[simp] theorem State.wrD8_mem_io (c : Ctx) (a : Word) (v : Byte) (sp : IoSpace) (h : c.io = some sp) :
    (s.wrD8 c a v).mem = s.mem := by simp [State.wrD8, h]
@[simp] theorem State.wrD8_ioWrites_none (c : Ctx) (a : Word) (v : Byte) (h : c.io = none) :
    (s.wrD8 c a v).ioWrites = s.ioWrites := by simp [State.wrD8, h, State.wrMem8]
@[simp] theorem State.afterRead_ioReads_none (c : Ctx) (n : Nat) (h : c.io = none) :
    (s.afterRead c n).ioReads = s.ioReads := by simp [State.afterRead, h]

/-- `WrD` of a byte: a store, or one event of the selected I/O space, and nothing else. -/
theorem State.wrD8_cases (c : Ctx) (a : Word) (v : Byte) :
    (c.io = none ∧ s.wrD8 c a v = s.wrMem8 a v) ∨
      ∃ sp, c.io = some sp ∧ s.wrD8 c a v = s.logIo { space := sp, addr := a, val := v } := by
  unfold State.wrD8
  split
  · next h => exact .inl ⟨h, rfl⟩
  · next sp h => exact .inr ⟨sp, h, rfl⟩

/-- `RdS`: no trace without an I/O prefix, a count with one. -/
theorem State.afterRead_cases (c : Ctx) (n : Nat) :
    (c.io = none ∧ s.afterRead c n = s) ∨ (c.io ≠ none ∧ s.afterRead c n = s.countReads n) := by
  unfold State.afterRead
  split
  · next h => exact .inl ⟨h, rfl⟩
  · next sp h => exact .inr ⟨by simp [h], rfl⟩

/-- The boundary after an instruction: nothing offered, an offer used up, or an interrupt taken. -/
theorem State.boundary_cases :
    (s.boundary = { s with irq := s.irq.tail }) ∨
      ∃ q rest, s.irq = some q :: rest ∧ s.accepts q = true ∧ s.boundary = (s.setIrq rest).enterInterrupt q := by
  unfold State.boundary
  split
  · next h => rw [h]; exact .inl (by cases s; simp_all)
  · next rest h => rw [h]; exact .inl rfl
  · next q rest h =>
    split
    · next ha => exact .inr ⟨q, rest, h, ha, rfl⟩
    · rw [h]; exact .inl rfl

end Sys2Proof.Machine
end

