-- ==== Sys2Proof/Laws/PerInstr.lean ====
section
/-!
SUPPORT. A family of facts about every constructor as syntax: the encoding of a row has the number of bytes that the
column length of spec/opcode_table.json gives (spec/30_encoding.md R68). A prefix row is the byte before the row
behind it.
-/
namespace Sys2Proof.Laws.TableLength

/-- The encoding has the table's length. -/
def Statement (i : Instr) : Prop := i.isPrefixed = false → (encode i).length = instrLength i

theorem ldIXmn (mn : Word) : Statement (.ldIXmn mn) := fun _ => rfl
theorem ldIYmn (mn : Word) : Statement (.ldIYmn mn) := fun _ => rfl
theorem ldDDmn (dd : SS) (mn : Word) : Statement (.ldDDmn dd mn) := fun _ => rfl
theorem ldRN (r : R8) (n : Byte) : Statement (.ldRN r n) := fun _ => rfl
theorem ldMmnA (mn : Word) : Statement (.ldMmnA mn) := fun _ => rfl
theorem ldAMmn (mn : Word) : Statement (.ldAMmn mn) := fun _ => rfl
theorem ldMmnHL (mn : Word) : Statement (.ldMmnHL mn) := fun _ => rfl
theorem ldMmnIX (mn : Word) : Statement (.ldMmnIX mn) := fun _ => rfl
theorem ldMmnIY (mn : Word) : Statement (.ldMmnIY mn) := fun _ => rfl
theorem ldMmnSS (mn : Word) (ss : SS) : Statement (.ldMmnSS mn ss) := fun _ => rfl
theorem ldHLMmn (mn : Word) : Statement (.ldHLMmn mn) := fun _ => rfl
theorem ldIXMmn (mn : Word) : Statement (.ldIXMmn mn) := fun _ => rfl
theorem ldIYMmn (mn : Word) : Statement (.ldIYMmn mn) := fun _ => rfl
theorem ldDDMmn (dd : SS) (mn : Word) : Statement (.ldDDMmn dd mn) := fun _ => rfl
theorem ldAMbc : Statement .ldAMbc := fun _ => rfl
theorem ldAMde : Statement .ldAMde := fun _ => rfl
theorem ldMbcA : Statement .ldMbcA := fun _ => rfl
theorem ldMdeA : Statement .ldMdeA := fun _ => rfl
theorem ldMhlN (n : Byte) : Statement (.ldMhlN n) := fun _ => rfl
theorem ldMhlR (r : R8) : Statement (.ldMhlR r) := fun _ => rfl
theorem ldRMhl (r : R8) : Statement (.ldRMhl r) := fun _ => rfl
theorem ldMixN (d : Byte) (n : Byte) : Statement (.ldMixN d n) := fun _ => rfl
theorem ldMixR (d : Byte) (r : R8) : Statement (.ldMixR d r) := fun _ => rfl
theorem ldRMix (r : R8) (d : Byte) : Statement (.ldRMix r d) := fun _ => rfl
theorem ldMiyN (d : Byte) (n : Byte) : Statement (.ldMiyN d n) := fun _ => rfl
theorem ldMiyR (d : Byte) (r : R8) : Statement (.ldMiyR d r) := fun _ => rfl
theorem ldRMiy (r : R8) (d : Byte) : Statement (.ldRMiy r d) := fun _ => rfl
theorem ldMhldHL (d : Byte) : Statement (.ldMhldHL d) := fun _ => rfl
theorem ldHLMhld (d : Byte) : Statement (.ldHLMhld d) := fun _ => rfl
theorem ldMspHL (n : Byte) : Statement (.ldMspHL n) := fun _ => rfl
theorem ldMspIX (n : Byte) : Statement (.ldMspIX n) := fun _ => rfl
theorem ldMspIY (n : Byte) : Statement (.ldMspIY n) := fun _ => rfl
theorem ldHLMsp (n : Byte) : Statement (.ldHLMsp n) := fun _ => rfl
theorem ldIXMsp (n : Byte) : Statement (.ldIXMsp n) := fun _ => rfl
theorem ldIYMsp (n : Byte) : Statement (.ldIYMsp n) := fun _ => rfl
theorem ldMixHL (d : Byte) : Statement (.ldMixHL d) := fun _ => rfl
theorem ldHLMix (d : Byte) : Statement (.ldHLMix d) := fun _ => rfl
theorem ldMiyHL (d : Byte) : Statement (.ldMiyHL d) := fun _ => rfl
theorem ldHLMiy (d : Byte) : Statement (.ldHLMiy d) := fun _ => rfl
theorem ldpMhlHL : Statement .ldpMhlHL := fun _ => rfl
theorem ldpMixHL : Statement .ldpMixHL := fun _ => rfl
theorem ldpMiyHL : Statement .ldpMiyHL := fun _ => rfl
theorem ldpHLMhl : Statement .ldpHLMhl := fun _ => rfl
theorem ldpHLMix : Statement .ldpHLMix := fun _ => rfl
theorem ldpHLMiy : Statement .ldpHLMiy := fun _ => rfl
theorem ldpMmnHL (mn : Word) : Statement (.ldpMmnHL mn) := fun _ => rfl
theorem ldpMmnIX (mn : Word) : Statement (.ldpMmnIX mn) := fun _ => rfl
theorem ldpMmnIY (mn : Word) : Statement (.ldpMmnIY mn) := fun _ => rfl
theorem ldpHLMmn (mn : Word) : Statement (.ldpHLMmn mn) := fun _ => rfl
theorem ldpIXMmn (mn : Word) : Statement (.ldpIXMmn mn) := fun _ => rfl
theorem ldpIYMmn (mn : Word) : Statement (.ldpIYMmn mn) := fun _ => rfl
theorem ldRG (r : R8) (g : R8) : Statement (.ldRG r g) := fun _ => rfl
theorem ldAEIR : Statement .ldAEIR := fun _ => rfl
theorem ldAIIR : Statement .ldAIIR := fun _ => rfl
theorem ldAXPC : Statement .ldAXPC := fun _ => rfl
theorem ldEIRA : Statement .ldEIRA := fun _ => rfl
theorem ldIIRA : Statement .ldIIRA := fun _ => rfl
theorem ldXPCA : Statement .ldXPCA := fun _ => rfl
theorem ldHLIX : Statement .ldHLIX := fun _ => rfl
theorem ldHLIY : Statement .ldHLIY := fun _ => rfl
theorem ldIXHL : Statement .ldIXHL := fun _ => rfl
theorem ldIYHL : Statement .ldIYHL := fun _ => rfl
theorem ldSPHL : Statement .ldSPHL := fun _ => rfl
theorem ldSPIX : Statement .ldSPIX := fun _ => rfl
theorem ldSPIY : Statement .ldSPIY := fun _ => rfl
theorem ldDDaBC (dd : DDa) : Statement (.ldDDaBC dd) := fun _ => rfl
theorem ldDDaDE (dd : DDa) : Statement (.ldDDaDE dd) := fun _ => rfl
theorem exMspHL : Statement .exMspHL := fun _ => rfl
theorem exMspIX : Statement .exMspIX := fun _ => rfl
theorem exMspIY : Statement .exMspIY := fun _ => rfl
theorem exAF : Statement .exAF := fun _ => rfl
theorem exDEaHL : Statement .exDEaHL := fun _ => rfl
theorem exDEaHLa : Statement .exDEaHLa := fun _ => rfl
theorem exDEHL : Statement .exDEHL := fun _ => rfl
theorem exDEHLa : Statement .exDEHLa := fun _ => rfl
theorem exx : Statement .exx := fun _ => rfl
theorem addSPd (d : Byte) : Statement (.addSPd d) := fun _ => rfl
theorem popIP : Statement .popIP := fun _ => rfl
theorem popIX : Statement .popIX := fun _ => rfl
theorem popIY : Statement .popIY := fun _ => rfl
theorem popZZ (zz : ZZ) : Statement (.popZZ zz) := fun _ => rfl
theorem pushIP : Statement .pushIP := fun _ => rfl
theorem pushIX : Statement .pushIX := fun _ => rfl
theorem pushIY : Statement .pushIY := fun _ => rfl
theorem pushZZ (zz : ZZ) : Statement (.pushZZ zz) := fun _ => rfl
theorem adcHLss (ss : SS) : Statement (.adcHLss ss) := fun _ => rfl
theorem addHLss (ss : SS) : Statement (.addHLss ss) := fun _ => rfl
theorem addIXxx (xx : XX) : Statement (.addIXxx xx) := fun _ => rfl
theorem addIYyy (yy : YY) : Statement (.addIYyy yy) := fun _ => rfl
theorem andHLDE : Statement .andHLDE := fun _ => rfl
theorem andIXDE : Statement .andIXDE := fun _ => rfl
theorem andIYDE : Statement .andIYDE := fun _ => rfl
theorem boolHL : Statement .boolHL := fun _ => rfl
theorem boolIX : Statement .boolIX := fun _ => rfl
theorem boolIY : Statement .boolIY := fun _ => rfl
theorem decIX : Statement .decIX := fun _ => rfl
theorem decIY : Statement .decIY := fun _ => rfl
theorem decSS (ss : SS) : Statement (.decSS ss) := fun _ => rfl
theorem incIX : Statement .incIX := fun _ => rfl
theorem incIY : Statement .incIY := fun _ => rfl
theorem incSS (ss : SS) : Statement (.incSS ss) := fun _ => rfl
theorem mul : Statement .mul := fun _ => rfl
theorem orHLDE : Statement .orHLDE := fun _ => rfl
theorem orIXDE : Statement .orIXDE := fun _ => rfl
theorem orIYDE : Statement .orIYDE := fun _ => rfl
theorem rlDE : Statement .rlDE := fun _ => rfl
theorem rrDE : Statement .rrDE := fun _ => rfl
theorem rrHL : Statement .rrHL := fun _ => rfl
theorem rrIX : Statement .rrIX := fun _ => rfl
theorem rrIY : Statement .rrIY := fun _ => rfl
theorem sbcHLss (ss : SS) : Statement (.sbcHLss ss) := fun _ => rfl
theorem adcMhl : Statement .adcMhl := fun _ => rfl
theorem adcMix (d : Byte) : Statement (.adcMix d) := fun _ => rfl
theorem adcMiy (d : Byte) : Statement (.adcMiy d) := fun _ => rfl
theorem adcN (n : Byte) : Statement (.adcN n) := fun _ => rfl
theorem adcR (r : R8) : Statement (.adcR r) := fun _ => rfl
theorem addMhl : Statement .addMhl := fun _ => rfl
theorem addMix (d : Byte) : Statement (.addMix d) := fun _ => rfl
theorem addMiy (d : Byte) : Statement (.addMiy d) := fun _ => rfl
theorem addN (n : Byte) : Statement (.addN n) := fun _ => rfl
theorem addR (r : R8) : Statement (.addR r) := fun _ => rfl
theorem andMhl : Statement .andMhl := fun _ => rfl
theorem andMix (d : Byte) : Statement (.andMix d) := fun _ => rfl
theorem andMiy (d : Byte) : Statement (.andMiy d) := fun _ => rfl
theorem andN (n : Byte) : Statement (.andN n) := fun _ => rfl
theorem andR (r : R8) : Statement (.andR r) := fun _ => rfl
theorem cpMhl : Statement .cpMhl := fun _ => rfl
theorem cpMix (d : Byte) : Statement (.cpMix d) := fun _ => rfl
theorem cpMiy (d : Byte) : Statement (.cpMiy d) := fun _ => rfl
theorem cpN (n : Byte) : Statement (.cpN n) := fun _ => rfl
theorem cpR (r : R8) : Statement (.cpR r) := fun _ => rfl
theorem orMhl : Statement .orMhl := fun _ => rfl
theorem orMix (d : Byte) : Statement (.orMix d) := fun _ => rfl
theorem orMiy (d : Byte) : Statement (.orMiy d) := fun _ => rfl
theorem orN (n : Byte) : Statement (.orN n) := fun _ => rfl
theorem orR (r : R8) : Statement (.orR r) := fun _ => rfl
theorem sbcMix (d : Byte) : Statement (.sbcMix d) := fun _ => rfl
theorem sbcMiy (d : Byte) : Statement (.sbcMiy d) := fun _ => rfl
theorem sbcMhl : Statement .sbcMhl := fun _ => rfl
theorem sbcN (n : Byte) : Statement (.sbcN n) := fun _ => rfl
theorem sbcR (r : R8) : Statement (.sbcR r) := fun _ => rfl
theorem subMhl : Statement .subMhl := fun _ => rfl
theorem subMix (d : Byte) : Statement (.subMix d) := fun _ => rfl
theorem subMiy (d : Byte) : Statement (.subMiy d) := fun _ => rfl
theorem subN (n : Byte) : Statement (.subN n) := fun _ => rfl
theorem subR (r : R8) : Statement (.subR r) := fun _ => rfl
theorem xorMhl : Statement .xorMhl := fun _ => rfl
theorem xorMix (d : Byte) : Statement (.xorMix d) := fun _ => rfl
theorem xorMiy (d : Byte) : Statement (.xorMiy d) := fun _ => rfl
theorem xorN (n : Byte) : Statement (.xorN n) := fun _ => rfl
theorem xorR (r : R8) : Statement (.xorR r) := fun _ => rfl
theorem bitMhl (b : BitVec 3) : Statement (.bitMhl b) := fun _ => rfl
theorem bitMix (b : BitVec 3) (d : Byte) : Statement (.bitMix b d) := fun _ => rfl
theorem bitMiy (b : BitVec 3) (d : Byte) : Statement (.bitMiy b d) := fun _ => rfl
theorem bitR (b : BitVec 3) (r : R8) : Statement (.bitR b r) := fun _ => rfl
theorem resMhl (b : BitVec 3) : Statement (.resMhl b) := fun _ => rfl
theorem resMix (b : BitVec 3) (d : Byte) : Statement (.resMix b d) := fun _ => rfl
theorem resMiy (b : BitVec 3) (d : Byte) : Statement (.resMiy b d) := fun _ => rfl
theorem resR (b : BitVec 3) (r : R8) : Statement (.resR b r) := fun _ => rfl
theorem setMhl (b : BitVec 3) : Statement (.setMhl b) := fun _ => rfl
theorem setMix (b : BitVec 3) (d : Byte) : Statement (.setMix b d) := fun _ => rfl
theorem setMiy (b : BitVec 3) (d : Byte) : Statement (.setMiy b d) := fun _ => rfl
theorem setR (b : BitVec 3) (r : R8) : Statement (.setR b r) := fun _ => rfl
theorem decMhl : Statement .decMhl := fun _ => rfl
theorem decMix (d : Byte) : Statement (.decMix d) := fun _ => rfl
theorem decMiy (d : Byte) : Statement (.decMiy d) := fun _ => rfl
theorem decR (r : R8) : Statement (.decR r) := fun _ => rfl
theorem incMhl : Statement .incMhl := fun _ => rfl
theorem incMix (d : Byte) : Statement (.incMix d) := fun _ => rfl
theorem incMiy (d : Byte) : Statement (.incMiy d) := fun _ => rfl
theorem incR (r : R8) : Statement (.incR r) := fun _ => rfl
theorem cpl : Statement .cpl := fun _ => rfl
theorem neg : Statement .neg := fun _ => rfl
theorem rla : Statement .rla := fun _ => rfl
theorem rlca : Statement .rlca := fun _ => rfl
theorem rra : Statement .rra := fun _ => rfl
theorem rrca : Statement .rrca := fun _ => rfl
theorem rlMhl : Statement .rlMhl := fun _ => rfl
theorem rlMix (d : Byte) : Statement (.rlMix d) := fun _ => rfl
theorem rlMiy (d : Byte) : Statement (.rlMiy d) := fun _ => rfl
theorem rlR (r : R8) : Statement (.rlR r) := fun _ => rfl
theorem rlcMhl : Statement .rlcMhl := fun _ => rfl
theorem rlcMix (d : Byte) : Statement (.rlcMix d) := fun _ => rfl
theorem rlcMiy (d : Byte) : Statement (.rlcMiy d) := fun _ => rfl
theorem rlcR (r : R8) : Statement (.rlcR r) := fun _ => rfl
theorem rrMhl : Statement .rrMhl := fun _ => rfl
theorem rrMix (d : Byte) : Statement (.rrMix d) := fun _ => rfl
theorem rrMiy (d : Byte) : Statement (.rrMiy d) := fun _ => rfl
theorem rrR (r : R8) : Statement (.rrR r) := fun _ => rfl
theorem rrcMhl : Statement .rrcMhl := fun _ => rfl
theorem rrcMix (d : Byte) : Statement (.rrcMix d) := fun _ => rfl
theorem rrcMiy (d : Byte) : Statement (.rrcMiy d) := fun _ => rfl
theorem rrcR (r : R8) : Statement (.rrcR r) := fun _ => rfl
theorem slaMhl : Statement .slaMhl := fun _ => rfl
theorem slaMix (d : Byte) : Statement (.slaMix d) := fun _ => rfl
theorem slaMiy (d : Byte) : Statement (.slaMiy d) := fun _ => rfl
theorem slaR (r : R8) : Statement (.slaR r) := fun _ => rfl
theorem sraMhl : Statement .sraMhl := fun _ => rfl
theorem sraMix (d : Byte) : Statement (.sraMix d) := fun _ => rfl
theorem sraMiy (d : Byte) : Statement (.sraMiy d) := fun _ => rfl
theorem sraR (r : R8) : Statement (.sraR r) := fun _ => rfl
theorem srlMhl : Statement .srlMhl := fun _ => rfl
theorem srlMix (d : Byte) : Statement (.srlMix d) := fun _ => rfl
theorem srlMiy (d : Byte) : Statement (.srlMiy d) := fun _ => rfl
theorem srlR (r : R8) : Statement (.srlR r) := fun _ => rfl
theorem altd (j : Instr) : Statement (.altd j) := fun h => Bool.noConfusion h
theorem ioe (j : Instr) : Statement (.ioe j) := fun h => Bool.noConfusion h
theorem ioi (j : Instr) : Statement (.ioi j) := fun h => Bool.noConfusion h
theorem ldd : Statement .ldd := fun _ => rfl
theorem lddr : Statement .lddr := fun _ => rfl
theorem ldi : Statement .ldi := fun _ => rfl
theorem ldir : Statement .ldir := fun _ => rfl
theorem callMn (mn : Word) : Statement (.callMn mn) := fun _ => rfl
theorem djnz (e : Byte) : Statement (.djnz e) := fun _ => rfl
theorem jpHL : Statement .jpHL := fun _ => rfl
theorem jpIX : Statement .jpIX := fun _ => rfl
theorem jpIY : Statement .jpIY := fun _ => rfl
theorem jpF (f : CondF) (mn : Word) : Statement (.jpF f mn) := fun _ => rfl
theorem jpMn (mn : Word) : Statement (.jpMn mn) := fun _ => rfl
theorem jrCC (cc : CondCC) (e : Byte) : Statement (.jrCC cc e) := fun _ => rfl
theorem jrE (e : Byte) : Statement (.jrE e) := fun _ => rfl
theorem lcall (x : Byte) (mn : Word) : Statement (.lcall x mn) := fun _ => rfl
theorem ljp (x : Byte) (mn : Word) : Statement (.ljp x mn) := fun _ => rfl
theorem lret : Statement .lret := fun _ => rfl
theorem ret : Statement .ret := fun _ => rfl
theorem retF (f : CondF) : Statement (.retF f) := fun _ => rfl
theorem reti : Statement .reti := fun _ => rfl
theorem rst (v : Rst) : Statement (.rst v) := fun _ => rfl
theorem ccf : Statement .ccf := fun _ => rfl
theorem ipset0 : Statement .ipset0 := fun _ => rfl
theorem ipset1 : Statement .ipset1 := fun _ => rfl
theorem ipset2 : Statement .ipset2 := fun _ => rfl
theorem ipset3 : Statement .ipset3 := fun _ => rfl
theorem ipres : Statement .ipres := fun _ => rfl
theorem nop : Statement .nop := fun _ => rfl
theorem scf : Statement .scf := fun _ => rfl

end Sys2Proof.Laws.TableLength
end

