-- ==== Sys2Proof/Laws/Prefix.lean ====
section
/-!
SUPPORT. Every instruction is its effect under its prefix set: what the statements about prefixed instructions rest
on.
-/
namespace Sys2Proof.Machine

/-- `exec` of an instruction term is its effect without further prefixes. -/
theorem exec_eq_runIn (i : Instr) (s : State) : exec i s = .next (runIn i Ctx.bare s) := by
  cases i <;> rfl

/-- Every instruction completes. -/
theorem exec_next (i : Instr) (s : State) : ∃ t, exec i s = .next t := ⟨_, exec_eq_runIn i s⟩

/-- The ALTD form of an instruction that stands behind the prefix. -/
theorem runIn_altdOf (i : Instr) (c : Ctx) (s : State) : runIn (altdOf i) c s = runIn i c.withAlt s := by
  cases i <;> rfl

/-- An instruction with its prefixes is its effect under the prefix set. -/
theorem exec_wrap (p : Pfx) (i : Instr) (s : State) : exec (p.wrap i) s = .next (runIn i p.ctx s) := by
  rw [exec_eq_runIn]
  cases p
  case none => rfl
  case altd => rw [Pfx.wrap, runIn_altdOf]; rfl
  case ioi => rfl
  case ioe => rfl
  case altdIoi => rfl
  case ioiAltd => rw [Pfx.wrap]; show Host.Outcome.next (runIn (altdOf i) _ s) = _; rw [runIn_altdOf]; rfl
  case altdIoe => rfl
  case ioeAltd => rw [Pfx.wrap]; show Host.Outcome.next (runIn (altdOf i) _ s) = _; rw [runIn_altdOf]; rfl

end Sys2Proof.Machine
end

