-- ==== Sys2Proof/Laws/RunIn.lean ====
section
/-! SUPPORT. What each row does under a prefix set, one lemma per constructor, true by `rfl`. -/
namespace Sys2Proof.Machine

variable (c : Ctx) (s : State)

@[simp] theorem runIn_ldIXmn (mn : Word) : runIn (.ldIXmn mn) c s = (s.setIX mn).advance c 4 := rfl
@[simp] theorem runIn_ldIYmn (mn : Word) : runIn (.ldIYmn mn) c s = (s.setIY mn).advance c 4 := rfl
@[simp] theorem runIn_ldDDmn (dd : SS) (mn : Word) :
    runIn (.ldDDmn dd mn) c s = (s.setSS c.alt dd mn).advance c 3 := rfl
@[simp] theorem runIn_ldRN (r : R8) (n : Byte) : runIn (.ldRN r n) c s = (s.setR8 c.alt r n).advance c 2 := rfl
@[simp] theorem runIn_ldMmnA (mn : Word) : runIn (.ldMmnA mn) c s = (s.wrD8 c mn s.main.a).advance c 3 := rfl
@[simp] theorem runIn_ldAMmn (mn : Word) : runIn (.ldAMmn mn) c s = (s.loadR8 c .a mn).advance c 3 := rfl
@[simp] theorem runIn_ldMmnHL (mn : Word) : runIn (.ldMmnHL mn) c s = (s.wrD16 c mn s.hl).advance c 3 := rfl
@[simp] theorem runIn_ldMmnIX (mn : Word) : runIn (.ldMmnIX mn) c s = (s.wrD16 c mn s.ix).advance c 4 := rfl
@[simp] theorem runIn_ldMmnIY (mn : Word) : runIn (.ldMmnIY mn) c s = (s.wrD16 c mn s.iy).advance c 4 := rfl
@[simp] theorem runIn_ldMmnSS (mn : Word) (ss : SS) :
    runIn (.ldMmnSS mn ss) c s = (s.wrD16 c mn (s.getSS ss)).advance c 4 := rfl
@[simp] theorem runIn_ldHLMmn (mn : Word) : runIn (.ldHLMmn mn) c s = (s.loadSS c .hl mn).advance c 3 := rfl
@[simp] theorem runIn_ldIXMmn (mn : Word) : runIn (.ldIXMmn mn) c s = (s.loadIX c mn).advance c 4 := rfl
@[simp] theorem runIn_ldIYMmn (mn : Word) : runIn (.ldIYMmn mn) c s = (s.loadIY c mn).advance c 4 := rfl
@[simp] theorem runIn_ldDDMmn (dd : SS) (mn : Word) :
    runIn (.ldDDMmn dd mn) c s = (s.loadSS c dd mn).advance c 4 := rfl
@[simp] theorem runIn_ldAMbc : runIn .ldAMbc c s = (s.loadR8 c .a s.bc).advance c 1 := rfl
@[simp] theorem runIn_ldAMde : runIn .ldAMde c s = (s.loadR8 c .a s.de).advance c 1 := rfl
@[simp] theorem runIn_ldMbcA : runIn .ldMbcA c s = (s.wrD8 c s.bc s.main.a).advance c 1 := rfl
@[simp] theorem runIn_ldMdeA : runIn .ldMdeA c s = (s.wrD8 c s.de s.main.a).advance c 1 := rfl
@[simp] theorem runIn_ldMhlN (n : Byte) : runIn (.ldMhlN n) c s = (s.wrD8 c s.hl n).advance c 2 := rfl
@[simp] theorem runIn_ldMhlR (r : R8) : runIn (.ldMhlR r) c s = (s.wrD8 c s.hl (s.main.get r)).advance c 1 := rfl
@[simp] theorem runIn_ldRMhl (r : R8) : runIn (.ldRMhl r) c s = (s.loadR8 c r s.hl).advance c 1 := rfl
@[simp] theorem runIn_ldMixN (d : Byte) (n : Byte) :
    runIn (.ldMixN d n) c s = (s.wrD8 c (s.eaIX d) n).advance c 4 := rfl
@[simp] theorem runIn_ldMixR (d : Byte) (r : R8) :
    runIn (.ldMixR d r) c s = (s.wrD8 c (s.eaIX d) (s.main.get r)).advance c 3 := rfl
@[simp] theorem runIn_ldRMix (r : R8) (d : Byte) :
    runIn (.ldRMix r d) c s = (s.loadR8 c r (s.eaIX d)).advance c 3 := rfl
@[simp] theorem runIn_ldMiyN (d : Byte) (n : Byte) :
    runIn (.ldMiyN d n) c s = (s.wrD8 c (s.eaIY d) n).advance c 4 := rfl
@[simp] theorem runIn_ldMiyR (d : Byte) (r : R8) :
    runIn (.ldMiyR d r) c s = (s.wrD8 c (s.eaIY d) (s.main.get r)).advance c 3 := rfl
@[simp] theorem runIn_ldRMiy (r : R8) (d : Byte) :
    runIn (.ldRMiy r d) c s = (s.loadR8 c r (s.eaIY d)).advance c 3 := rfl
@[simp] theorem runIn_ldMhldHL (d : Byte) : runIn (.ldMhldHL d) c s = (s.wrD16 c (s.eaHL d) s.hl).advance c 3 := rfl
@[simp] theorem runIn_ldHLMhld (d : Byte) : runIn (.ldHLMhld d) c s = (s.loadSS c .hl (s.eaHL d)).advance c 3 := rfl
@[simp] theorem runIn_ldMspHL (n : Byte) : runIn (.ldMspHL n) c s = (s.wrMem16 (s.eaSP n) s.hl).advance c 2 := rfl
@[simp] theorem runIn_ldMspIX (n : Byte) : runIn (.ldMspIX n) c s = (s.wrMem16 (s.eaSP n) s.ix).advance c 3 := rfl
@[simp] theorem runIn_ldMspIY (n : Byte) : runIn (.ldMspIY n) c s = (s.wrMem16 (s.eaSP n) s.iy).advance c 3 := rfl
@[simp] theorem runIn_ldHLMsp (n : Byte) :
    runIn (.ldHLMsp n) c s = (s.setSS c.alt .hl (s.mem16 (s.eaSP n))).advance c 2 := rfl
@[simp] theorem runIn_ldIXMsp (n : Byte) : runIn (.ldIXMsp n) c s = (s.setIX (s.mem16 (s.eaSP n))).advance c 3 := rfl
@[simp] theorem runIn_ldIYMsp (n : Byte) : runIn (.ldIYMsp n) c s = (s.setIY (s.mem16 (s.eaSP n))).advance c 3 := rfl
@[simp] theorem runIn_ldMixHL (d : Byte) : runIn (.ldMixHL d) c s = (s.wrD16 c (s.eaIX d) s.hl).advance c 2 := rfl
@[simp] theorem runIn_ldHLMix (d : Byte) : runIn (.ldHLMix d) c s = (s.loadSS c .hl (s.eaIX d)).advance c 2 := rfl
@[simp] theorem runIn_ldMiyHL (d : Byte) : runIn (.ldMiyHL d) c s = (s.wrD16 c (s.eaIY d) s.hl).advance c 3 := rfl
@[simp] theorem runIn_ldHLMiy (d : Byte) : runIn (.ldHLMiy d) c s = (s.loadSS c .hl (s.eaIY d)).advance c 3 := rfl
@[simp] theorem runIn_ldpMhlHL : runIn .ldpMhlHL c s = (s.ldpWrite s.hl s.hl).advance c 2 := rfl
@[simp] theorem runIn_ldpMixHL : runIn .ldpMixHL c s = (s.ldpWrite s.ix s.hl).advance c 2 := rfl
@[simp] theorem runIn_ldpMiyHL : runIn .ldpMiyHL c s = (s.ldpWrite s.iy s.hl).advance c 2 := rfl
@[simp] theorem runIn_ldpHLMhl : runIn .ldpHLMhl c s = (s.setSS false .hl (s.ldpRead s.hl)).advance c 2 := rfl
@[simp] theorem runIn_ldpHLMix : runIn .ldpHLMix c s = (s.setSS false .hl (s.ldpRead s.ix)).advance c 2 := rfl
@[simp] theorem runIn_ldpHLMiy : runIn .ldpHLMiy c s = (s.setSS false .hl (s.ldpRead s.iy)).advance c 2 := rfl
@[simp] theorem runIn_ldpMmnHL (mn : Word) : runIn (.ldpMmnHL mn) c s = (s.ldpWrite mn s.hl).advance c 4 := rfl
@[simp] theorem runIn_ldpMmnIX (mn : Word) : runIn (.ldpMmnIX mn) c s = (s.ldpWrite mn s.ix).advance c 4 := rfl
@[simp] theorem runIn_ldpMmnIY (mn : Word) : runIn (.ldpMmnIY mn) c s = (s.ldpWrite mn s.iy).advance c 4 := rfl
@[simp] theorem runIn_ldpHLMmn (mn : Word) :
    runIn (.ldpHLMmn mn) c s = (s.setSS false .hl (s.ldpRead mn)).advance c 4 := rfl
@[simp] theorem runIn_ldpIXMmn (mn : Word) : runIn (.ldpIXMmn mn) c s = (s.setIX (s.ldpRead mn)).advance c 4 := rfl
@[simp] theorem runIn_ldpIYMmn (mn : Word) : runIn (.ldpIYMmn mn) c s = (s.setIY (s.ldpRead mn)).advance c 4 := rfl
@[simp] theorem runIn_ldRG (r : R8) (g : R8) :
    runIn (.ldRG r g) c s = (s.setR8 c.alt r (s.main.get g)).advance c 1 := rfl
@[simp] theorem runIn_ldAEIR :
    runIn .ldAEIR c s = ((s.setR8 c.alt .a s.eir).setFlags c.alt (flagsSZ s.eir)).advance c 2 := rfl
@[simp] theorem runIn_ldAIIR :
    runIn .ldAIIR c s = ((s.setR8 c.alt .a s.iir).setFlags c.alt (flagsSZ s.iir)).advance c 2 := rfl
@[simp] theorem runIn_ldAXPC : runIn .ldAXPC c s = (s.setR8 c.alt .a s.xpc).advance c 2 := rfl
@[simp] theorem runIn_ldEIRA : runIn .ldEIRA c s = (s.setEIR s.main.a).advance c 2 := rfl
@[simp] theorem runIn_ldIIRA : runIn .ldIIRA c s = (s.setIIR s.main.a).advance c 2 := rfl
@[simp] theorem runIn_ldXPCA : runIn .ldXPCA c s = (s.setXPC s.main.a).advancePriv c 2 := rfl
@[simp] theorem runIn_ldHLIX : runIn .ldHLIX c s = (s.setSS c.alt .hl s.ix).advance c 2 := rfl
@[simp] theorem runIn_ldHLIY : runIn .ldHLIY c s = (s.setSS c.alt .hl s.iy).advance c 2 := rfl
@[simp] theorem runIn_ldIXHL : runIn .ldIXHL c s = (s.setIX s.hl).advance c 2 := rfl
@[simp] theorem runIn_ldIYHL : runIn .ldIYHL c s = (s.setIY s.hl).advance c 2 := rfl
@[simp] theorem runIn_ldSPHL : runIn .ldSPHL c s = (s.setSP s.hl).advancePriv c 1 := rfl
@[simp] theorem runIn_ldSPIX : runIn .ldSPIX c s = (s.setSP s.ix).advancePriv c 2 := rfl
@[simp] theorem runIn_ldSPIY : runIn .ldSPIY c s = (s.setSP s.iy).advancePriv c 2 := rfl
@[simp] theorem runIn_ldDDaBC (dd : DDa) : runIn (.ldDDaBC dd) c s = (s.setDDa dd s.bc).advance c 2 := rfl
@[simp] theorem runIn_ldDDaDE (dd : DDa) : runIn (.ldDDaDE dd) c s = (s.setDDa dd s.de).advance c 2 := rfl
@[simp] theorem runIn_exMspHL :
    runIn .exMspHL c s = ((s.wrMem16 s.sp s.hl).setSS c.alt .hl (s.mem16 s.sp)).advance c 2 := rfl
@[simp] theorem runIn_exMspIX : runIn .exMspIX c s = ((s.wrMem16 s.sp s.ix).setIX (s.mem16 s.sp)).advance c 2 := rfl
@[simp] theorem runIn_exMspIY : runIn .exMspIY c s = ((s.wrMem16 s.sp s.iy).setIY (s.mem16 s.sp)).advance c 2 := rfl
@[simp] theorem runIn_exAF :
    runIn .exAF c s = ((s.setZZ false .af s.alt.af).setZZ true .af s.main.af).advance c 1 := rfl
@[simp] theorem runIn_exDEaHL : runIn .exDEaHL c s = (s.exchangeDEa c.alt).advance c 1 := rfl
@[simp] theorem runIn_exDEaHLa : runIn .exDEaHLa c s = (s.exchangeDEa true).advance c 2 := rfl
@[simp] theorem runIn_exDEHL : runIn .exDEHL c s = (s.exchangeDE c.alt).advance c 1 := rfl
@[simp] theorem runIn_exDEHLa : runIn .exDEHLa c s = (s.exchangeDE true).advance c 2 := rfl
@[simp] theorem runIn_exx : runIn .exx c s = s.exchangeGeneral.advance c 1 := rfl
@[simp] theorem runIn_addSPd (d : Byte) :
    runIn (.addSPd d) c s = ((s.setSP (sumRes s.sp (Config.spDisplacement d) false)).setFlags c.alt
    { c := some (sumCarry s.sp (Config.spDisplacement d) false) }).advance c 2 := rfl
@[simp] theorem runIn_popIP : runIn .popIP c s = ((s.setIP (s.mem8 s.sp)).setSP (s.sp + 1)).advancePriv c 2 := rfl
@[simp] theorem runIn_popIX : runIn .popIX c s = ((s.setIX (s.mem16 s.sp)).setSP (s.sp + 2)).advance c 2 := rfl
@[simp] theorem runIn_popIY : runIn .popIY c s = ((s.setIY (s.mem16 s.sp)).setSP (s.sp + 2)).advance c 2 := rfl
@[simp] theorem runIn_popZZ (zz : ZZ) :
    runIn (.popZZ zz) c s = ((s.setZZ c.alt zz (s.mem16 s.sp)).setSP (s.sp + 2)).advance c 1 := rfl
@[simp] theorem runIn_pushIP : runIn .pushIP c s = (s.push8 s.ip).advance c 2 := rfl
@[simp] theorem runIn_pushIX : runIn .pushIX c s = (s.push16 s.ix).advance c 2 := rfl
@[simp] theorem runIn_pushIY : runIn .pushIY c s = (s.push16 s.iy).advance c 2 := rfl
@[simp] theorem runIn_pushZZ (zz : ZZ) :
    runIn (.pushZZ zz) c s = ((s.push16 (s.pushedZZ zz)).afterPush zz).advance c 1 := rfl
@[simp] theorem runIn_adcHLss (ss : SS) :
    runIn (.adcHLss ss) c s = ((s.setSS c.alt .hl (sumRes s.hl (s.getSS ss) s.carry)).setFlags c.alt
    (flagsAdd s.hl (s.getSS ss) s.carry)).advance c 2 := rfl
@[simp] theorem runIn_addHLss (ss : SS) :
    runIn (.addHLss ss) c s = ((s.setSS c.alt .hl (sumRes s.hl (s.getSS ss) false)).setFlags c.alt
    { c := some (sumCarry s.hl (s.getSS ss) false) }).advance c 1 := rfl
@[simp] theorem runIn_addIXxx (xx : XX) :
    runIn (.addIXxx xx) c s = ((s.setIX (sumRes s.ix (s.getXX xx) false)).setFlags c.alt
    { c := some (sumCarry s.ix (s.getXX xx) false) }).advance c 2 := rfl
@[simp] theorem runIn_addIYyy (yy : YY) :
    runIn (.addIYyy yy) c s = ((s.setIY (sumRes s.iy (s.getYY yy) false)).setFlags c.alt
    { c := some (sumCarry s.iy (s.getYY yy) false) }).advance c 2 := rfl
@[simp] theorem runIn_andHLDE :
    runIn .andHLDE c s = ((s.setSS c.alt .hl (s.hl &&& s.de)).setFlags c.alt (flagsLogic (s.hl &&& s.de) false)).advance c 1 := rfl
@[simp] theorem runIn_andIXDE :
    runIn .andIXDE c s = ((s.setIX (s.ix &&& s.de)).setFlags c.alt (flagsLogic (s.ix &&& s.de) false)).advance c 2 := rfl
@[simp] theorem runIn_andIYDE :
    runIn .andIYDE c s = ((s.setIY (s.iy &&& s.de)).setFlags c.alt (flagsLogic (s.iy &&& s.de) false)).advance c 2 := rfl
@[simp] theorem runIn_boolHL :
    runIn .boolHL c s = ((s.setSS c.alt .hl (boolWord s.hl)).setFlags c.alt (flagsBool s.hl)).advance c 1 := rfl
@[simp] theorem runIn_boolIX :
    runIn .boolIX c s = ((s.setIX (boolWord s.ix)).setFlags c.alt (flagsBool s.ix)).advance c 2 := rfl
@[simp] theorem runIn_boolIY :
    runIn .boolIY c s = ((s.setIY (boolWord s.iy)).setFlags c.alt (flagsBool s.iy)).advance c 2 := rfl
@[simp] theorem runIn_decIX : runIn .decIX c s = (s.setIX (s.ix - 1)).advance c 2 := rfl
@[simp] theorem runIn_decIY : runIn .decIY c s = (s.setIY (s.iy - 1)).advance c 2 := rfl
@[simp] theorem runIn_decSS (ss : SS) : runIn (.decSS ss) c s = (s.setSS c.alt ss (s.getSS ss - 1)).advance c 1 := rfl
@[simp] theorem runIn_incIX : runIn .incIX c s = (s.setIX (s.ix + 1)).advance c 2 := rfl
@[simp] theorem runIn_incIY : runIn .incIY c s = (s.setIY (s.iy + 1)).advance c 2 := rfl
@[simp] theorem runIn_incSS (ss : SS) : runIn (.incSS ss) c s = (s.setSS c.alt ss (s.getSS ss + 1)).advance c 1 := rfl
@[simp] theorem runIn_mul :
    runIn .mul c s = ((s.setSS false .hl ((mulSigned s.bc s.de).extractLsb' 16 16)).setSS false .bc
    ((mulSigned s.bc s.de).extractLsb' 0 16)).advance c 1 := rfl
@[simp] theorem runIn_orHLDE :
    runIn .orHLDE c s = ((s.setSS c.alt .hl (s.hl ||| s.de)).setFlags c.alt (flagsLogic (s.hl ||| s.de) false)).advance c 1 := rfl
@[simp] theorem runIn_orIXDE :
    runIn .orIXDE c s = ((s.setIX (s.ix ||| s.de)).setFlags c.alt (flagsLogic (s.ix ||| s.de) false)).advance c 2 := rfl
@[simp] theorem runIn_orIYDE :
    runIn .orIYDE c s = ((s.setIY (s.iy ||| s.de)).setFlags c.alt (flagsLogic (s.iy ||| s.de) false)).advance c 2 := rfl
@[simp] theorem runIn_rlDE :
    runIn .rlDE c s = ((s.setSS c.alt .de (shiftRes .rl s.de s.carry)).setFlags c.alt
    (flagsShift .rl s.de s.carry)).advance c 1 := rfl
@[simp] theorem runIn_rrDE :
    runIn .rrDE c s = ((s.setSS c.alt .de (shiftRes .rr s.de s.carry)).setFlags c.alt
    (flagsShift .rr s.de s.carry)).advance c 1 := rfl
@[simp] theorem runIn_rrHL :
    runIn .rrHL c s = ((s.setSS c.alt .hl (shiftRes .rr s.hl s.carry)).setFlags c.alt (flagsShift .rr s.hl s.carry)).advance c 1 := rfl
@[simp] theorem runIn_rrIX :
    runIn .rrIX c s = ((s.setIX (shiftRes .rr s.ix s.carry)).setFlags c.alt (flagsShift .rr s.ix s.carry)).advance c 2 := rfl
@[simp] theorem runIn_rrIY :
    runIn .rrIY c s = ((s.setIY (shiftRes .rr s.iy s.carry)).setFlags c.alt (flagsShift .rr s.iy s.carry)).advance c 2 := rfl
@[simp] theorem runIn_sbcHLss (ss : SS) :
    runIn (.sbcHLss ss) c s = ((s.setSS c.alt .hl (diffRes s.hl (s.getSS ss) s.carry)).setFlags c.alt
    (flagsSub s.hl (s.getSS ss) s.carry)).advance c 2 := rfl
@[simp] theorem runIn_adcMhl : runIn .adcMhl c s = (s.aluMem c .adc s.hl).advance c 1 := rfl
@[simp] theorem runIn_adcMix (d : Byte) : runIn (.adcMix d) c s = (s.aluMem c .adc (s.eaIX d)).advance c 3 := rfl
@[simp] theorem runIn_adcMiy (d : Byte) : runIn (.adcMiy d) c s = (s.aluMem c .adc (s.eaIY d)).advance c 3 := rfl
@[simp] theorem runIn_adcN (n : Byte) : runIn (.adcN n) c s = (s.alu c .adc n).advance c 2 := rfl
@[simp] theorem runIn_adcR (r : R8) : runIn (.adcR r) c s = (s.alu c .adc (s.main.get r)).advance c 1 := rfl
@[simp] theorem runIn_addMhl : runIn .addMhl c s = (s.aluMem c .add s.hl).advance c 1 := rfl
@[simp] theorem runIn_addMix (d : Byte) : runIn (.addMix d) c s = (s.aluMem c .add (s.eaIX d)).advance c 3 := rfl
@[simp] theorem runIn_addMiy (d : Byte) : runIn (.addMiy d) c s = (s.aluMem c .add (s.eaIY d)).advance c 3 := rfl
@[simp] theorem runIn_addN (n : Byte) : runIn (.addN n) c s = (s.alu c .add n).advance c 2 := rfl
@[simp] theorem runIn_addR (r : R8) : runIn (.addR r) c s = (s.alu c .add (s.main.get r)).advance c 1 := rfl
@[simp] theorem runIn_andMhl : runIn .andMhl c s = (s.aluMem c .conj s.hl).advance c 1 := rfl
@[simp] theorem runIn_andMix (d : Byte) : runIn (.andMix d) c s = (s.aluMem c .conj (s.eaIX d)).advance c 3 := rfl
@[simp] theorem runIn_andMiy (d : Byte) : runIn (.andMiy d) c s = (s.aluMem c .conj (s.eaIY d)).advance c 3 := rfl
@[simp] theorem runIn_andN (n : Byte) : runIn (.andN n) c s = (s.alu c .conj n).advance c 2 := rfl
@[simp] theorem runIn_andR (r : R8) : runIn (.andR r) c s = (s.alu c .conj (s.main.get r)).advance c 1 := rfl
@[simp] theorem runIn_cpMhl : runIn .cpMhl c s = (s.aluMem c .cp s.hl).advance c 1 := rfl
@[simp] theorem runIn_cpMix (d : Byte) : runIn (.cpMix d) c s = (s.aluMem c .cp (s.eaIX d)).advance c 3 := rfl
@[simp] theorem runIn_cpMiy (d : Byte) : runIn (.cpMiy d) c s = (s.aluMem c .cp (s.eaIY d)).advance c 3 := rfl
@[simp] theorem runIn_cpN (n : Byte) : runIn (.cpN n) c s = (s.alu c .cp n).advance c 2 := rfl
@[simp] theorem runIn_cpR (r : R8) : runIn (.cpR r) c s = (s.alu c .cp (s.main.get r)).advance c 1 := rfl
@[simp] theorem runIn_orMhl : runIn .orMhl c s = (s.aluMem c .disj s.hl).advance c 1 := rfl
@[simp] theorem runIn_orMix (d : Byte) : runIn (.orMix d) c s = (s.aluMem c .disj (s.eaIX d)).advance c 3 := rfl
@[simp] theorem runIn_orMiy (d : Byte) : runIn (.orMiy d) c s = (s.aluMem c .disj (s.eaIY d)).advance c 3 := rfl
@[simp] theorem runIn_orN (n : Byte) : runIn (.orN n) c s = (s.alu c .disj n).advance c 2 := rfl
@[simp] theorem runIn_orR (r : R8) : runIn (.orR r) c s = (s.alu c .disj (s.main.get r)).advance c 1 := rfl
@[simp] theorem runIn_sbcMix (d : Byte) : runIn (.sbcMix d) c s = (s.aluMem c .sbc (s.eaIX d)).advance c 3 := rfl
@[simp] theorem runIn_sbcMiy (d : Byte) : runIn (.sbcMiy d) c s = (s.aluMem c .sbc (s.eaIY d)).advance c 3 := rfl
@[simp] theorem runIn_sbcMhl : runIn .sbcMhl c s = (s.aluMem c .sbc s.hl).advance c 1 := rfl
@[simp] theorem runIn_sbcN (n : Byte) : runIn (.sbcN n) c s = (s.alu c .sbc n).advance c 2 := rfl
@[simp] theorem runIn_sbcR (r : R8) : runIn (.sbcR r) c s = (s.alu c .sbc (s.main.get r)).advance c 1 := rfl
@[simp] theorem runIn_subMhl : runIn .subMhl c s = (s.aluMem c .sub s.hl).advance c 1 := rfl
@[simp] theorem runIn_subMix (d : Byte) : runIn (.subMix d) c s = (s.aluMem c .sub (s.eaIX d)).advance c 3 := rfl
@[simp] theorem runIn_subMiy (d : Byte) : runIn (.subMiy d) c s = (s.aluMem c .sub (s.eaIY d)).advance c 3 := rfl
@[simp] theorem runIn_subN (n : Byte) : runIn (.subN n) c s = (s.alu c .sub n).advance c 2 := rfl
@[simp] theorem runIn_subR (r : R8) : runIn (.subR r) c s = (s.alu c .sub (s.main.get r)).advance c 1 := rfl
@[simp] theorem runIn_xorMhl : runIn .xorMhl c s = (s.aluMem c .xor s.hl).advance c 1 := rfl
@[simp] theorem runIn_xorMix (d : Byte) : runIn (.xorMix d) c s = (s.aluMem c .xor (s.eaIX d)).advance c 3 := rfl
@[simp] theorem runIn_xorMiy (d : Byte) : runIn (.xorMiy d) c s = (s.aluMem c .xor (s.eaIY d)).advance c 3 := rfl
@[simp] theorem runIn_xorN (n : Byte) : runIn (.xorN n) c s = (s.alu c .xor n).advance c 2 := rfl
@[simp] theorem runIn_xorR (r : R8) : runIn (.xorR r) c s = (s.alu c .xor (s.main.get r)).advance c 1 := rfl
@[simp] theorem runIn_bitMhl (b : BitVec 3) : runIn (.bitMhl b) c s = (s.bitMem c b s.hl).advancePriv c 2 := rfl
@[simp] theorem runIn_bitMix (b : BitVec 3) (d : Byte) :
    runIn (.bitMix b d) c s = (s.bitMem c b (s.eaIX d)).advance c 4 := rfl
@[simp] theorem runIn_bitMiy (b : BitVec 3) (d : Byte) :
    runIn (.bitMiy b d) c s = (s.bitMem c b (s.eaIY d)).advance c 4 := rfl
@[simp] theorem runIn_bitR (b : BitVec 3) (r : R8) :
    runIn (.bitR b r) c s = (s.setFlags c.alt (flagsBit b (s.main.get r))).advance c 2 := rfl
@[simp] theorem runIn_resMhl (b : BitVec 3) : runIn (.resMhl b) c s = (s.rmw c s.hl (resBit b)).advance c 2 := rfl
@[simp] theorem runIn_resMix (b : BitVec 3) (d : Byte) :
    runIn (.resMix b d) c s = (s.rmw c (s.eaIX d) (resBit b)).advance c 4 := rfl
@[simp] theorem runIn_resMiy (b : BitVec 3) (d : Byte) :
    runIn (.resMiy b d) c s = (s.rmw c (s.eaIY d) (resBit b)).advance c 4 := rfl
@[simp] theorem runIn_resR (b : BitVec 3) (r : R8) :
    runIn (.resR b r) c s = (s.setR8 c.alt r (resBit b (s.main.get r))).advance c 2 := rfl
@[simp] theorem runIn_setMhl (b : BitVec 3) : runIn (.setMhl b) c s = (s.rmw c s.hl (setBit b)).advance c 2 := rfl
@[simp] theorem runIn_setMix (b : BitVec 3) (d : Byte) :
    runIn (.setMix b d) c s = (s.rmw c (s.eaIX d) (setBit b)).advance c 4 := rfl
@[simp] theorem runIn_setMiy (b : BitVec 3) (d : Byte) :
    runIn (.setMiy b d) c s = (s.rmw c (s.eaIY d) (setBit b)).advance c 4 := rfl
@[simp] theorem runIn_setR (b : BitVec 3) (r : R8) :
    runIn (.setR b r) c s = (s.setR8 c.alt r (setBit b (s.main.get r))).advance c 2 := rfl
@[simp] theorem runIn_decMhl : runIn .decMhl c s = (s.decMem c s.hl).advance c 1 := rfl
@[simp] theorem runIn_decMix (d : Byte) : runIn (.decMix d) c s = (s.decMem c (s.eaIX d)).advance c 3 := rfl
@[simp] theorem runIn_decMiy (d : Byte) : runIn (.decMiy d) c s = (s.decMem c (s.eaIY d)).advance c 3 := rfl
@[simp] theorem runIn_decR (r : R8) :
    runIn (.decR r) c s = ((s.setR8 c.alt r (s.main.get r - 1)).setFlags c.alt (flagsDec (s.main.get r))).advance c 1 := rfl
@[simp] theorem runIn_incMhl : runIn .incMhl c s = (s.incMem c s.hl).advance c 1 := rfl
@[simp] theorem runIn_incMix (d : Byte) : runIn (.incMix d) c s = (s.incMem c (s.eaIX d)).advance c 3 := rfl
@[simp] theorem runIn_incMiy (d : Byte) : runIn (.incMiy d) c s = (s.incMem c (s.eaIY d)).advance c 3 := rfl
@[simp] theorem runIn_incR (r : R8) :
    runIn (.incR r) c s = ((s.setR8 c.alt r (s.main.get r + 1)).setFlags c.alt (flagsInc (s.main.get r))).advance c 1 := rfl
@[simp] theorem runIn_cpl : runIn .cpl c s = (s.setR8 c.alt .a (~~~s.main.a)).advance c 1 := rfl
@[simp] theorem runIn_neg :
    runIn .neg c s = ((s.setR8 c.alt .a (diffRes 0 s.main.a false)).setFlags c.alt (flagsSub 0 s.main.a false)).advance c 2 := rfl
@[simp] theorem runIn_rla :
    runIn .rla c s = ((s.setR8 c.alt .a (shiftRes .rl s.main.a s.carry)).setFlags c.alt
    { c := some (shiftOut .rl s.main.a) }).advance c 1 := rfl
@[simp] theorem runIn_rlca :
    runIn .rlca c s = ((s.setR8 c.alt .a (shiftRes .rlc s.main.a s.carry)).setFlags c.alt
    { c := some (shiftOut .rlc s.main.a) }).advance c 1 := rfl
@[simp] theorem runIn_rra :
    runIn .rra c s = ((s.setR8 c.alt .a (shiftRes .rr s.main.a s.carry)).setFlags c.alt
    { c := some (shiftOut .rr s.main.a) }).advance c 1 := rfl
@[simp] theorem runIn_rrca :
    runIn .rrca c s = ((s.setR8 c.alt .a (shiftRes .rrc s.main.a s.carry)).setFlags c.alt
    { c := some (shiftOut .rrc s.main.a) }).advance c 1 := rfl
@[simp] theorem runIn_rlMhl : runIn .rlMhl c s = (s.shiftMem c .rl s.hl).advance c 2 := rfl
@[simp] theorem runIn_rlMix (d : Byte) : runIn (.rlMix d) c s = (s.shiftMem c .rl (s.eaIX d)).advance c 4 := rfl
@[simp] theorem runIn_rlMiy (d : Byte) : runIn (.rlMiy d) c s = (s.shiftMem c .rl (s.eaIY d)).advance c 4 := rfl
@[simp] theorem runIn_rlR (r : R8) :
    runIn (.rlR r) c s = ((s.setR8 c.alt r (shiftRes .rl (s.main.get r) s.carry)).setFlags c.alt
    (flagsShift .rl (s.main.get r) s.carry)).advance c 2 := rfl
@[simp] theorem runIn_rlcMhl : runIn .rlcMhl c s = (s.shiftMem c .rlc s.hl).advance c 2 := rfl
@[simp] theorem runIn_rlcMix (d : Byte) : runIn (.rlcMix d) c s = (s.shiftMem c .rlc (s.eaIX d)).advance c 4 := rfl
@[simp] theorem runIn_rlcMiy (d : Byte) : runIn (.rlcMiy d) c s = (s.shiftMem c .rlc (s.eaIY d)).advance c 4 := rfl
@[simp] theorem runIn_rlcR (r : R8) :
    runIn (.rlcR r) c s = ((s.setR8 c.alt r (shiftRes .rlc (s.main.get r) s.carry)).setFlags c.alt
    (flagsShift .rlc (s.main.get r) s.carry)).advance c 2 := rfl
@[simp] theorem runIn_rrMhl : runIn .rrMhl c s = (s.shiftMem c .rr s.hl).advance c 2 := rfl
@[simp] theorem runIn_rrMix (d : Byte) : runIn (.rrMix d) c s = (s.shiftMem c .rr (s.eaIX d)).advance c 4 := rfl
@[simp] theorem runIn_rrMiy (d : Byte) : runIn (.rrMiy d) c s = (s.shiftMem c .rr (s.eaIY d)).advance c 4 := rfl
@[simp] theorem runIn_rrR (r : R8) :
    runIn (.rrR r) c s = ((s.setR8 c.alt r (shiftRes .rr (s.main.get r) s.carry)).setFlags c.alt
    (flagsShift .rr (s.main.get r) s.carry)).advance c 2 := rfl
@[simp] theorem runIn_rrcMhl : runIn .rrcMhl c s = (s.shiftMem c .rrc s.hl).advance c 2 := rfl
@[simp] theorem runIn_rrcMix (d : Byte) : runIn (.rrcMix d) c s = (s.shiftMem c .rrc (s.eaIX d)).advance c 4 := rfl
@[simp] theorem runIn_rrcMiy (d : Byte) : runIn (.rrcMiy d) c s = (s.shiftMem c .rrc (s.eaIY d)).advance c 4 := rfl
@[simp] theorem runIn_rrcR (r : R8) :
    runIn (.rrcR r) c s = ((s.setR8 c.alt r (shiftRes .rrc (s.main.get r) s.carry)).setFlags c.alt
    (flagsShift .rrc (s.main.get r) s.carry)).advance c 2 := rfl
@[simp] theorem runIn_slaMhl : runIn .slaMhl c s = (s.shiftMem c .sla s.hl).advance c 2 := rfl
@[simp] theorem runIn_slaMix (d : Byte) : runIn (.slaMix d) c s = (s.shiftMem c .sla (s.eaIX d)).advance c 4 := rfl
@[simp] theorem runIn_slaMiy (d : Byte) : runIn (.slaMiy d) c s = (s.shiftMem c .sla (s.eaIY d)).advance c 4 := rfl
@[simp] theorem runIn_slaR (r : R8) :
    runIn (.slaR r) c s = ((s.setR8 c.alt r (shiftRes .sla (s.main.get r) s.carry)).setFlags c.alt
    (flagsShift .sla (s.main.get r) s.carry)).advance c 2 := rfl
@[simp] theorem runIn_sraMhl : runIn .sraMhl c s = (s.shiftMem c .sra s.hl).advance c 2 := rfl
@[simp] theorem runIn_sraMix (d : Byte) : runIn (.sraMix d) c s = (s.shiftMem c .sra (s.eaIX d)).advance c 4 := rfl
@[simp] theorem runIn_sraMiy (d : Byte) : runIn (.sraMiy d) c s = (s.shiftMem c .sra (s.eaIY d)).advance c 4 := rfl
@[simp] theorem runIn_sraR (r : R8) :
    runIn (.sraR r) c s = ((s.setR8 c.alt r (shiftRes .sra (s.main.get r) s.carry)).setFlags c.alt
    (flagsShift .sra (s.main.get r) s.carry)).advance c 2 := rfl
@[simp] theorem runIn_srlMhl : runIn .srlMhl c s = (s.shiftMem c .srl s.hl).advance c 2 := rfl
@[simp] theorem runIn_srlMix (d : Byte) : runIn (.srlMix d) c s = (s.shiftMem c .srl (s.eaIX d)).advance c 4 := rfl
@[simp] theorem runIn_srlMiy (d : Byte) : runIn (.srlMiy d) c s = (s.shiftMem c .srl (s.eaIY d)).advance c 4 := rfl
@[simp] theorem runIn_srlR (r : R8) :
    runIn (.srlR r) c s = ((s.setR8 c.alt r (shiftRes .srl (s.main.get r) s.carry)).setFlags c.alt
    (flagsShift .srl (s.main.get r) s.carry)).advance c 2 := rfl
@[simp] theorem runIn_ldd : runIn .ldd c s = (s.moveStep c .down).advance c 2 := rfl
@[simp] theorem runIn_lddr : runIn .lddr c s = (s.moveStep c .down).repeatOrAdvance c 2 := rfl
@[simp] theorem runIn_ldi : runIn .ldi c s = (s.moveStep c .up).advance c 2 := rfl
@[simp] theorem runIn_ldir : runIn .ldir c s = (s.moveStep c .up).repeatOrAdvance c 2 := rfl
@[simp] theorem runIn_callMn (mn : Word) : runIn (.callMn mn) c s = (s.push16 (s.pcn c 3)).jump mn := rfl
@[simp] theorem runIn_djnz (e : Byte) :
    runIn (.djnz e) c s = (s.setR8 c.alt .b (s.main.b - 1)).branch c 2 (s.main.b - 1 != 0) (s.pcn c 2 + sext e) := rfl
@[simp] theorem runIn_jpHL : runIn .jpHL c s = s.jump s.hl := rfl
@[simp] theorem runIn_jpIX : runIn .jpIX c s = s.jump s.ix := rfl
@[simp] theorem runIn_jpIY : runIn .jpIY c s = s.jump s.iy := rfl
@[simp] theorem runIn_jpF (f : CondF) (mn : Word) : runIn (.jpF f mn) c s = s.branch c 3 (s.condF f) mn := rfl
@[simp] theorem runIn_jpMn (mn : Word) : runIn (.jpMn mn) c s = s.jump mn := rfl
@[simp] theorem runIn_jrCC (cc : CondCC) (e : Byte) :
    runIn (.jrCC cc e) c s = s.branch c 2 (s.condCC cc) (s.pcn c 2 + sext e) := rfl
@[simp] theorem runIn_jrE (e : Byte) : runIn (.jrE e) c s = s.jump (s.pcn c 2 + sext e) := rfl
@[simp] theorem runIn_lcall (x : Byte) (mn : Word) :
    runIn (.lcall x mn) c s = (((s.push8 s.xpc).push16 (s.pcn c 4)).setXPC x).jump mn := rfl
@[simp] theorem runIn_ljp (x : Byte) (mn : Word) : runIn (.ljp x mn) c s = (s.setXPC x).jump mn := rfl
@[simp] theorem runIn_lret :
    runIn .lret c s = ((s.setSP (s.sp + 3)).setXPC (s.mem8 (s.sp + 2))).jump (s.mem16 s.sp) := rfl
@[simp] theorem runIn_ret : runIn .ret c s = s.ret := rfl
@[simp] theorem runIn_retF (f : CondF) : runIn (.retF f) c s = s.retIf c 1 (s.condF f) := rfl
@[simp] theorem runIn_reti :
    runIn .reti c s = ((s.setSP (s.sp + 3)).setIP (s.mem8 s.sp)).jumpPriv (s.mem16 (s.sp + 1)) := rfl
@[simp] theorem runIn_rst (v : Rst) : runIn (.rst v) c s = (s.push16 (s.pcn c 1)).jump (s.rstTarget v) := rfl
@[simp] theorem runIn_ccf : runIn .ccf c s = (s.setFlags c.alt { c := some (!s.carry) }).advance c 1 := rfl
@[simp] theorem runIn_ipset0 : runIn .ipset0 c s = (s.setIP (ipPush s.ip 0#2)).advancePriv c 2 := rfl
@[simp] theorem runIn_ipset1 : runIn .ipset1 c s = (s.setIP (ipPush s.ip 1#2)).advancePriv c 2 := rfl
@[simp] theorem runIn_ipset2 : runIn .ipset2 c s = (s.setIP (ipPush s.ip 2#2)).advancePriv c 2 := rfl
@[simp] theorem runIn_ipset3 : runIn .ipset3 c s = (s.setIP (ipPush s.ip 3#2)).advancePriv c 2 := rfl
@[simp] theorem runIn_ipres : runIn .ipres c s = (s.setIP (ipPop s.ip)).advancePriv c 2 := rfl
@[simp] theorem runIn_nop : runIn .nop c s = s.advance c 1 := rfl
@[simp] theorem runIn_scf : runIn .scf c s = (s.setFlags c.alt { c := some true }).advance c 1 := rfl

end Sys2Proof.Machine
end

