-- ==== Sys2Proof/Laws/Runs.lean ====
section
/-!
SUPPORT. How the statements' vocabulary (Sys2Proof/Claims.lean) is reached: from the effect of a row under a prefix
set to what `exec` answers, and from a flag update to the flags a statement names.
-/
namespace Sys2Proof.Machine

theorem runs_of_runIn {p : Pfx} {i : Instr} {s x : State} {len : Nat}
    (h : runIn i p.ctx s = { x with pc := s.pc + BitVec.ofNat 16 (p.bytes.length + len), inhibit := false }) :
    Runs p i s x len := by
  rw [Runs, exec_wrap, h]

theorem runsPrivileged_of_runIn {p : Pfx} {i : Instr} {s x : State} {len : Nat}
    (h : runIn i p.ctx s = { x with pc := s.pc + BitVec.ofNat 16 (p.bytes.length + len), inhibit := true }) :
    RunsPrivileged p i s x len := by
  rw [RunsPrivileged, exec_wrap, h]

theorem jumpsTo_of_runIn {p : Pfx} {i : Instr} {s x : State} {t : Word}
    (h : runIn i p.ctx s = { x with pc := t, inhibit := false }) : JumpsTo p i s x t := by
  rw [JumpsTo, exec_wrap, h]

/-- What writing flags leaves in a flag register, in the words of the statements. -/
theorem flagsAre_apply (u : FlagUpd) (f : Byte) :
    FlagsAre (u.apply f) f (u.s.getD (flagS f)) (u.z.getD (flagZ f)) (u.lv.getD (flagLV f)) (u.c.getD (flagC f)) :=
  ⟨flagS_apply u f, flagZ_apply u f, flagLV_apply u f, flagC_apply u f, unused_apply u f 1 (by simp),
    unused_apply u f 3 (by simp), unused_apply u f 4 (by simp), unused_apply u f 5 (by simp)⟩

/-! ## The set that ALTD selects -/

variable (s : State)

@[simp] theorem State.bank_updBank_same (b : Bool) (g : Bank → Bank) : (s.updBank b g).bank b = g (s.bank b) := by
  cases b <;> rfl

@[simp] theorem State.bank_updBank_other (b : Bool) (g : Bank → Bank) : (s.updBank b g).bank (!b) = s.bank (!b) := by
  cases b <;> rfl

@[simp] theorem State.bank_afterRead (b : Bool) (c : Ctx) (n : Nat) : (s.afterRead c n).bank b = s.bank b := by
  cases b <;> simp [State.bank]

@[simp] theorem State.bank_wrD8 (b : Bool) (c : Ctx) (a : Word) (v : Byte) : (s.wrD8 c a v).bank b = s.bank b := by
  cases b <;> simp [State.bank]

@[simp] theorem Bank.setBC_f (k : Bank) (v : Word) : (k.setBC v).f = k.f := rfl
@[simp] theorem Bank.setDE_f (k : Bank) (v : Word) : (k.setDE v).f = k.f := rfl
@[simp] theorem Bank.setHL_f (k : Bank) (v : Word) : (k.setHL v).f = k.f := rfl
@[simp] theorem Bank.set_f (k : Bank) (r : R8) (v : Byte) : (k.set r v).f = k.f := by cases r <;> rfl

@[simp] theorem State.bank_setR8_f (b : Bool) (r : R8) (v : Byte) : ((s.setR8 b r v).bank b).f = (s.bank b).f := by
  cases b <;> cases r <;> rfl

@[simp] theorem Pfx.ctx_alt (p : Pfx) : p.ctx.alt = p.hasAlt := rfl
@[simp] theorem Pfx.ctx_io (p : Pfx) : p.ctx.io = p.io := rfl
@[simp] theorem Pfx.ctx_plen (p : Pfx) : p.ctx.plen = p.bytes.length := rfl

/-- An 8-bit operation that writes A: the result there, then the flags (44_arith8.md R212). -/
theorem State.alu_writing (c : Ctx) (op : AluOp) (x : Byte) (h : op.writesA = true) :
    s.alu c op x =
      (s.updBank c.alt fun k => { k with a := aluRes op s.main.a x s.carry }).setFlags c.alt
        (aluFlags op s.main.a x s.carry) := by
  rw [State.alu, if_pos h]
  rfl

/-- `CP` writes the flags only (44_arith8.md R240). -/
theorem State.alu_cp (c : Ctx) (x : Byte) : s.alu c .cp x = s.setFlags c.alt (aluFlags .cp s.main.a x s.carry) := rfl

/-! ## Flags -/

/-- What a row that writes the flags `u` leaves, in the words of the statements: `x` is the state before the flags. -/
theorem State.setFlags_advance {x : State} (p : Pfx) (len : Nat) (u : FlagUpd)
    (hf : (x.bank p.hasAlt).f = (s.bank p.hasAlt).f) (hp : x.pc = s.pc) :
    (x.setFlags p.hasAlt u).advance p.ctx len =
      { x.updBank p.hasAlt fun k => { k with f := u.apply (s.bank p.hasAlt).f } with
        pc := s.pc + BitVec.ofNat 16 (p.bytes.length + len)
        inhibit := false } := by
  rw [← hf, ← hp]
  cases h : p.hasAlt <;> rfl

/-- A row whose effect is `x` and the flags `u` runs with the flags that `u` gives. -/
theorem runsWithFlags_of_setFlags {p : Pfx} {i : Instr} {s x : State} {len : Nat} {fs fz fv fc : Bool} (u : FlagUpd)
    (h : runIn i p.ctx s = (x.setFlags p.hasAlt u).advance p.ctx len)
    (hf : (x.bank p.hasAlt).f = (s.bank p.hasAlt).f) (hp : x.pc = s.pc)
    (hs : u.s.getD (s.oldS p) = fs) (hz : u.z.getD (s.oldZ p) = fz) (hv : u.lv.getD (s.oldLV p) = fv)
    (hc : u.c.getD (s.oldC p) = fc) : RunsWithFlags p i s x len fs fz fv fc := by
  subst hs hz hv hc
  exact ⟨_, flagsAre_apply u _, runs_of_runIn (by rw [h, State.setFlags_advance s p len u hf hp])⟩

end Sys2Proof.Machine
end

