-- ==== Sys2Proof/Laws/Stores.lean ====
section
/-!
SUPPORT. What the shared operations do to memory and to the I/O spaces: which bytes they can change, and that the
canonical form is kept.
-/
namespace Sys2Proof.Machine

variable (s : State) (c : Ctx)

/-! ## Which memory an operation leaves -/

@[simp] theorem State.incMem_mem (a : Word) :
    (s.incMem c a).mem = (s.rmw c a fun v => sumRes v 1 false).mem := by simp [State.incMem]

@[simp] theorem State.decMem_mem (a : Word) :
    (s.decMem c a).mem = (s.rmw c a fun v => diffRes v 1 false).mem := by simp [State.decMem]

@[simp] theorem State.shiftMem_mem (op : ShiftOp) (a : Word) :
    (s.shiftMem c op a).mem = (s.rmw c a fun v => shiftRes op v s.carry).mem := by simp [State.shiftMem]

@[simp] theorem State.moveStep_mem (dir : Dir) :
    (s.moveStep c dir).mem = (s.wrD8 c s.de (s.mem8 s.hl)).mem := by simp [State.moveStep]

/-- States with the same memory read alike. -/
theorem State.physRead_congr {s t : State} (h : t.mem = s.mem) (q : Phys) : t.physRead q = s.physRead q := by
  simp [State.physRead, h]

/-! ## The canonical form -/

theorem State.wrD8_wf (a : Word) (v : Byte) (h : Memory.wf s.mem = true) :
    Memory.wf (s.wrD8 c a v).mem = true := by
  rcases s.wrD8_cases c a v with ⟨_, e⟩ | ⟨_, _, e⟩ <;> rw [e]
  · exact State.wrMem8_wf _ _ _ h
  · exact h

theorem State.wrD16_wf (a v : Word) (h : Memory.wf s.mem = true) :
    Memory.wf (s.wrD16 c a v).mem = true := State.wrD8_wf _ _ _ _ (State.wrD8_wf _ _ _ _ h)

theorem State.rmw_wf (a : Word) (g : Byte → Byte) (h : Memory.wf s.mem = true) :
    Memory.wf (s.rmw c a g).mem = true := State.wrD8_wf _ _ _ _ (by simpa using h)

/-! ## Bytes outside the stored ones -/

theorem State.wrD8_physRead (a : Word) (v : Byte) (q : Phys) (h : q ∉ storeBytes1 s c.io a) :
    (s.wrD8 c a v).physRead q = s.physRead q := by
  rcases s.wrD8_cases c a v with ⟨hc, e⟩ | ⟨_, _, e⟩ <;> rw [e]
  · simp only [storeBytes1, hc] at h
    exact State.physRead_wrMem8_other _ _ _ _ (by simpa using h)
  · rfl

theorem State.wrD16_physRead (a v : Word) (q : Phys) (h : q ∉ storeBytes2 s c.io a) :
    (s.wrD16 c a v).physRead q = s.physRead q := by
  unfold State.wrD16
  rcases s.wrD8_cases c a (loByte v) with ⟨hc, e⟩ | ⟨sp, hc, e⟩ <;> rw [e]
  · simp only [storeBytes2, hc] at h
    simp only [List.mem_cons, not_or] at h
    rw [State.wrD8_physRead _ _ _ _ _ (by simpa [storeBytes1, hc] using h.2.1)]
    exact State.physRead_wrMem8_other _ _ _ _ h.1
  · rw [State.wrD8_physRead _ _ _ _ _ (by simp [storeBytes1, hc])]
    rfl

theorem State.rmw_physRead (a : Word) (g : Byte → Byte) (q : Phys) (h : q ∉ storeBytes1 s c.io a) :
    (s.rmw c a g).physRead q = s.physRead q := by
  unfold State.rmw
  have e : (s.afterRead c 1).phys a = s.phys a := State.phys_congr (by simp) (by simp) (by simp) a
  rw [State.wrD8_physRead]
  · exact State.physRead_congr (by simp) q
  · unfold storeBytes1 at *
    rw [e]
    exact h

theorem State.ldpWrite_physRead (x v : Word) (q : Phys) (h : q ∉ [s.ldpAddr x, s.ldpAddr (x + 1)]) :
    (s.ldpWrite x v).physRead q = s.physRead q := by
  simp only [List.mem_cons, not_or] at h
  unfold State.ldpWrite
  rw [State.physRead_physWrite_other _ _ _ _ h.2.1, State.physRead_physWrite_other _ _ _ _ h.1]

theorem State.push8_physRead (v : Byte) (q : Phys) (h : q ≠ s.phys (s.sp - 1)) :
    (s.push8 v).physRead q = s.physRead q := State.physRead_wrMem8_other _ _ _ _ h

theorem State.push16_physRead (v : Word) (q : Phys) (h1 : q ≠ s.phys (s.sp - 1)) (h2 : q ≠ s.phys (s.sp - 2)) :
    (s.push16 v).physRead q = s.physRead q := by
  show ((s.wrMem8 (s.sp - 1) (hiByte v)).wrMem8 (s.sp - 2) (loByte v)).physRead q = _
  rw [State.physRead_wrMem8_other _ _ _ _ (by simpa using h2), State.physRead_wrMem8_other _ _ _ _ h1]

/-- The lower byte of a push. -/
theorem State.mem8_push16_lo (v : Word) : (s.push16 v).mem8 (s.sp - 2) = loByte v :=
  State.mem8_wrMem8_same (s.wrMem8 (s.sp - 1) (hiByte v)) _ _

/-- The upper byte of a push. -/
theorem State.mem8_push16_hi (v : Word) (h : s.phys (s.sp - 1) ≠ s.phys (s.sp - 2)) :
    (s.push16 v).mem8 (s.sp - 1) = hiByte v :=
  (State.physRead_wrMem8_other (s.wrMem8 (s.sp - 1) (hiByte v)) (s.sp - 2) (loByte v) _ h).trans
    (State.mem8_wrMem8_same s _ _)

/-- The two bytes of a push, read back. -/
theorem State.push16_mem16 (v : Word) (h : s.phys (s.sp - 1) ≠ s.phys (s.sp - 2)) :
    (s.push16 v).mem16 (s.sp - 2) = v := by
  have e : s.sp - 2 + 1 = s.sp - 1 := by bv_omega
  rw [State.mem16, e, State.mem8_push16_hi _ _ h, State.mem8_push16_lo, mkWord_hi_lo]

/-- Reads of memory agree in states that agree on memory and on what `Translate` may depend on. -/
theorem State.mem8_congr {s t : State} (hm : t.mem = s.mem) (h1 : t.translation = s.translation)
    (h2 : t.xpc = s.xpc) (h3 : t.ioWrites = s.ioWrites) (a : Word) : t.mem8 a = s.mem8 a := by
  rw [State.mem8, State.mem8, State.phys_congr h1 h2 h3, State.physRead_congr hm]

/-- As `mem8_congr`, for a word. -/
theorem State.mem16_congr {s t : State} (hm : t.mem = s.mem) (h1 : t.translation = s.translation)
    (h2 : t.xpc = s.xpc) (h3 : t.ioWrites = s.ioWrites) (a : Word) : t.mem16 a = s.mem16 a := by
  rw [State.mem16, State.mem16, State.mem8_congr hm h1 h2 h3, State.mem8_congr hm h1 h2 h3]

/-! ## The page of an `LDP` -/

/-- The low 16 bits of an `LDP` address are the operand (20_memory.md R46). -/
theorem State.ldpAddr_low (x : Word) : (s.ldpAddr x).extractLsb' 0 16 = x := by
  unfold State.ldpAddr
  apply BitVec.eq_of_getLsbD_eq
  intro i hi
  rw [BitVec.getLsbD_extractLsb', BitVec.getLsbD_append]
  simp [hi]

/-- The page of an `LDP` address is A[3:0] (20_memory.md R46). -/
theorem State.ldpAddr_page (x : Word) : (s.ldpAddr x).extractLsb' 16 4 = s.main.a.extractLsb' 0 4 := by
  unfold State.ldpAddr
  apply BitVec.eq_of_getLsbD_eq
  intro i hi
  rw [BitVec.getLsbD_extractLsb', BitVec.getLsbD_append]
  simp [hi, show ¬ (16 + i < 16) by omega]

end Sys2Proof.Machine
end

