-- ==== Sys2Proof/Laws/Timing.lean ====
section
/-!
SUPPORT. The clock figures (spec/70_reset_and_hazards.md R440): what a prefix adds, and the clocks of a whole
uninterrupted repeating block move (47_prefix_block.md R315).
-/
namespace Sys2Proof.Machine

/-- Each prefix adds 2 clocks to any execution of a row other than `LDIR` and `LDDR`. -/
theorem prefixClocks_of_not_repeating (b : Bool) (p : Pfx) {i : Instr} (h : isRepeating i = false) :
    prefixClocks b p i = 2 * p.bytes.length := by
  simp [prefixClocks, h]

/-- A row that is no block move costs its figure and 2 for each prefix. -/
theorem clocks_of_not_blockMove (b : Bool) (w : Nat) (p : Pfx) {i : Instr} (s : State) (h : isBlockMove i = false) :
    clocks b w p i s = rowClocks b i s + 2 * p.bytes.length := by
  have hr : isRepeating i = false := by
    cases i <;> first | rfl | exact h
  rw [clocks, prefixClocks_of_not_repeating b p hr, h]
  cases p.io <;> rfl

/-- The `n + 1` steps of an uninterrupted `LDIR` or `LDDR` cost 6 + 7 (n + 1), what an I/O prefix adds to each step, and
2 for each prefix once. -/
theorem clocks_of_repeating_move (w n : Nat) (p : Pfx) {i : Instr} (s t : State) (h : isRepeating i = true) :
    clocks true w p i s + n * clocks false w p i t =
      6 + 7 * (n + 1) + (n + 1) * (p.io.elim 0 (blockIoClocks w)) + 2 * p.bytes.length := by
  have hi : i = .ldir ∨ i = .lddr := by
    cases i <;> first | exact Or.inl rfl | exact Or.inr rfl | exact Bool.noConfusion h
  rcases hi with rfl | rfl <;> cases hp : p.io <;>
    simp only [clocks, prefixClocks, isRepeating, isBlockMove, rowClocks, hp, Option.elim, Bool.not_true, Bool.not_false,
      Bool.and_self, Bool.and_false, if_true, if_false, Bool.false_eq_true] <;> ring

end Sys2Proof.Machine
end

