-- ==== Sys2Proof/Tests/Slice0.lean ====
section
/-!
SUPPORT. Tests of the model: the well-formedness check, decoding of words written out from the spec's encodings, single
steps with the results spec/95_test_vectors.md derives from the rules, and for every obligation with hypotheses a
concrete input that meets them.
-/
namespace Sys2Proof.Tests

open Sys2Proof Sys2Proof.Machine

/-! ## Well-formedness: an ill-formed term for each check (30_encoding.md R66, 42_move_exchange_stack.md R172, R174) -/

theorem test_wf_altd_twice : ¬ WellFormed (.altd (.altd .nop)) := by decide

theorem test_wf_io_prefixes_twice : ¬ WellFormed (.ioi (.ioe .nop)) ∧ ¬ WellFormed (.ioi (.ioi .nop)) := by decide

theorem test_wf_three_prefixes :
    ¬ WellFormed (.altd (.ioi (.altd .nop))) ∧ ¬ WellFormed (.ioe (.altd (.ioe .nop))) := by decide

theorem test_wf_altd_on_a_row_that_has_an_altd_row :
    ¬ WellFormed (.altd .exDEHL) ∧ ¬ WellFormed (.altd .exDEaHL) ∧ ¬ WellFormed (.ioi (.altd .exDEHL)) := by decide

theorem test_wf_altd_on_an_altd_row :
    ¬ WellFormed (.altd .exDEHLa) ∧ ¬ WellFormed (.altd (.ioi .exDEaHLa)) := by decide

theorem test_wf_accepts_the_prefix_sets :
    WellFormed .nop ∧ WellFormed (.altd .nop) ∧ WellFormed (.ioi .nop) ∧ WellFormed (.ioe .nop) ∧
      WellFormed (.altd (.ioi .nop)) ∧ WellFormed (.ioe (.altd .nop)) ∧ WellFormed (.ioi .exDEHLa) ∧
      WellFormed (.altd (.ioe .exDEHL)) := by decide

/-! ## Decoding: for every row, one word written out from its encoding (column `encoding` of the table, field codes
of spec/00_scope.md R8) decodes to the row's instruction -/

theorem test_decode_immediate_and_direct_loads_1 :
    decode [0xDD, 0x21, 0x34, 0x12] = .ok (.ldIXmn 0x1234, []) ∧
    decode [0xFD, 0x21, 0x34, 0x12] = .ok (.ldIYmn 0x1234, []) ∧
    decode [0x31, 0x34, 0x12] = .ok (.ldDDmn .sp 0x1234, []) ∧
    decode [0x1E, 0x5A] = .ok (.ldRN .e 0x5A, []) ∧
    decode [0x32, 0x34, 0x12] = .ok (.ldMmnA 0x1234, []) ∧
    decode [0x3A, 0x34, 0x12] = .ok (.ldAMmn 0x1234, []) ∧
    decode [0x22, 0x34, 0x12] = .ok (.ldMmnHL 0x1234, []) ∧
    decode [0xDD, 0x22, 0x34, 0x12] = .ok (.ldMmnIX 0x1234, []) ∧
    decode [0xFD, 0x22, 0x34, 0x12] = .ok (.ldMmnIY 0x1234, []) ∧
    decode [0xED, 0x43, 0x34, 0x12] = .ok (.ldMmnSS 0x1234 .bc, []) :=
  ⟨rfl, rfl, rfl, rfl, rfl, rfl, rfl, rfl, rfl, rfl⟩

theorem test_decode_immediate_and_direct_loads_2 :
    decode [0x2A, 0x34, 0x12] = .ok (.ldHLMmn 0x1234, []) ∧
    decode [0xDD, 0x2A, 0x34, 0x12] = .ok (.ldIXMmn 0x1234, []) ∧
    decode [0xFD, 0x2A, 0x34, 0x12] = .ok (.ldIYMmn 0x1234, []) ∧
    decode [0xED, 0x5B, 0x34, 0x12] = .ok (.ldDDMmn .de 0x1234, []) :=
  ⟨rfl, rfl, rfl, rfl⟩

theorem test_decode_indexed_loads_1 :
    decode [0x0A] = .ok (.ldAMbc, []) ∧
    decode [0x1A] = .ok (.ldAMde, []) ∧
    decode [0x02] = .ok (.ldMbcA, []) ∧
    decode [0x12] = .ok (.ldMdeA, []) ∧
    decode [0x36, 0x5A] = .ok (.ldMhlN 0x5A, []) ∧
    decode [0x74] = .ok (.ldMhlR .h, []) ∧
    decode [0x6E] = .ok (.ldRMhl .l, []) ∧
    decode [0xDD, 0x36, 0xFE, 0x5A] = .ok (.ldMixN 0xFE 0x5A, []) ∧
    decode [0xDD, 0x77, 0xFE] = .ok (.ldMixR 0xFE .a, []) ∧
    decode [0xDD, 0x46, 0xFE] = .ok (.ldRMix .b 0xFE, []) :=
  ⟨rfl, rfl, rfl, rfl, rfl, rfl, rfl, rfl, rfl, rfl⟩

theorem test_decode_indexed_loads_2 :
    decode [0xFD, 0x36, 0xFE, 0x5A] = .ok (.ldMiyN 0xFE 0x5A, []) ∧
    decode [0xFD, 0x71, 0xFE] = .ok (.ldMiyR 0xFE .c, []) ∧
    decode [0xFD, 0x56, 0xFE] = .ok (.ldRMiy .d 0xFE, []) ∧
    decode [0xDD, 0xF4, 0xFE] = .ok (.ldMhldHL 0xFE, []) ∧
    decode [0xDD, 0xE4, 0xFE] = .ok (.ldHLMhld 0xFE, []) ∧
    decode [0xD4, 0x5A] = .ok (.ldMspHL 0x5A, []) ∧
    decode [0xDD, 0xD4, 0x5A] = .ok (.ldMspIX 0x5A, []) ∧
    decode [0xFD, 0xD4, 0x5A] = .ok (.ldMspIY 0x5A, []) ∧
    decode [0xC4, 0x5A] = .ok (.ldHLMsp 0x5A, []) ∧
    decode [0xDD, 0xC4, 0x5A] = .ok (.ldIXMsp 0x5A, []) :=
  ⟨rfl, rfl, rfl, rfl, rfl, rfl, rfl, rfl, rfl, rfl⟩

theorem test_decode_indexed_loads_3 :
    decode [0xFD, 0xC4, 0x5A] = .ok (.ldIYMsp 0x5A, []) ∧
    decode [0xF4, 0xFE] = .ok (.ldMixHL 0xFE, []) ∧
    decode [0xE4, 0xFE] = .ok (.ldHLMix 0xFE, []) ∧
    decode [0xFD, 0xF4, 0xFE] = .ok (.ldMiyHL 0xFE, []) ∧
    decode [0xFD, 0xE4, 0xFE] = .ok (.ldHLMiy 0xFE, []) ∧
    decode [0xED, 0x64] = .ok (.ldpMhlHL, []) ∧
    decode [0xDD, 0x64] = .ok (.ldpMixHL, []) ∧
    decode [0xFD, 0x64] = .ok (.ldpMiyHL, []) ∧
    decode [0xED, 0x6C] = .ok (.ldpHLMhl, []) ∧
    decode [0xDD, 0x6C] = .ok (.ldpHLMix, []) :=
  ⟨rfl, rfl, rfl, rfl, rfl, rfl, rfl, rfl, rfl, rfl⟩

theorem test_decode_indexed_loads_4 :
    decode [0xFD, 0x6C] = .ok (.ldpHLMiy, []) ∧
    decode [0xED, 0x65, 0x34, 0x12] = .ok (.ldpMmnHL 0x1234, []) ∧
    decode [0xDD, 0x65, 0x34, 0x12] = .ok (.ldpMmnIX 0x1234, []) ∧
    decode [0xFD, 0x65, 0x34, 0x12] = .ok (.ldpMmnIY 0x1234, []) ∧
    decode [0xED, 0x6D, 0x34, 0x12] = .ok (.ldpHLMmn 0x1234, []) ∧
    decode [0xDD, 0x6D, 0x34, 0x12] = .ok (.ldpIXMmn 0x1234, []) ∧
    decode [0xFD, 0x6D, 0x34, 0x12] = .ok (.ldpIYMmn 0x1234, []) :=
  ⟨rfl, rfl, rfl, rfl, rfl, rfl, rfl⟩

theorem test_decode_moves_exchanges_stack_1 :
    decode [0x5C] = .ok (.ldRG .e .h, []) ∧
    decode [0xED, 0x57] = .ok (.ldAEIR, []) ∧
    decode [0xED, 0x5F] = .ok (.ldAIIR, []) ∧
    decode [0xED, 0x77] = .ok (.ldAXPC, []) ∧
    decode [0xED, 0x47] = .ok (.ldEIRA, []) ∧
    decode [0xED, 0x4F] = .ok (.ldIIRA, []) ∧
    decode [0xED, 0x67] = .ok (.ldXPCA, []) ∧
    decode [0xDD, 0x7C] = .ok (.ldHLIX, []) ∧
    decode [0xFD, 0x7C] = .ok (.ldHLIY, []) ∧
    decode [0xDD, 0x7D] = .ok (.ldIXHL, []) :=
  ⟨rfl, rfl, rfl, rfl, rfl, rfl, rfl, rfl, rfl, rfl⟩

theorem test_decode_moves_exchanges_stack_2 :
    decode [0xFD, 0x7D] = .ok (.ldIYHL, []) ∧
    decode [0xF9] = .ok (.ldSPHL, []) ∧
    decode [0xDD, 0xF9] = .ok (.ldSPIX, []) ∧
    decode [0xFD, 0xF9] = .ok (.ldSPIY, []) ∧
    decode [0xED, 0x49] = .ok (.ldDDaBC .bc, []) ∧
    decode [0xED, 0x51] = .ok (.ldDDaDE .de, []) ∧
    decode [0xED, 0x54] = .ok (.exMspHL, []) ∧
    decode [0xDD, 0xE3] = .ok (.exMspIX, []) ∧
    decode [0xFD, 0xE3] = .ok (.exMspIY, []) ∧
    decode [0x08] = .ok (.exAF, []) :=
  ⟨rfl, rfl, rfl, rfl, rfl, rfl, rfl, rfl, rfl, rfl⟩

theorem test_decode_moves_exchanges_stack_3 :
    decode [0xE3] = .ok (.exDEaHL, []) ∧
    decode [0x76, 0xE3] = .ok (.exDEaHLa, []) ∧
    decode [0xEB] = .ok (.exDEHL, []) ∧
    decode [0x76, 0xEB] = .ok (.exDEHLa, []) ∧
    decode [0xD9] = .ok (.exx, []) ∧
    decode [0x27, 0xFE] = .ok (.addSPd 0xFE, []) ∧
    decode [0xED, 0x7E] = .ok (.popIP, []) ∧
    decode [0xDD, 0xE1] = .ok (.popIX, []) ∧
    decode [0xFD, 0xE1] = .ok (.popIY, []) ∧
    decode [0xF1] = .ok (.popZZ .af, []) :=
  ⟨rfl, rfl, rfl, rfl, rfl, rfl, rfl, rfl, rfl, rfl⟩

theorem test_decode_moves_exchanges_stack_4 :
    decode [0xED, 0x76] = .ok (.pushIP, []) ∧
    decode [0xDD, 0xE5] = .ok (.pushIX, []) ∧
    decode [0xFD, 0xE5] = .ok (.pushIY, []) ∧
    decode [0xC5] = .ok (.pushZZ .bc, []) :=
  ⟨rfl, rfl, rfl, rfl⟩

theorem test_decode_arithmetic_16_1 :
    decode [0xED, 0x6A] = .ok (.adcHLss .hl, []) ∧
    decode [0x39] = .ok (.addHLss .sp, []) ∧
    decode [0xDD, 0x39] = .ok (.addIXxx .sp, []) ∧
    decode [0xFD, 0x39] = .ok (.addIYyy .sp, []) ∧
    decode [0xDC] = .ok (.andHLDE, []) ∧
    decode [0xDD, 0xDC] = .ok (.andIXDE, []) ∧
    decode [0xFD, 0xDC] = .ok (.andIYDE, []) ∧
    decode [0xCC] = .ok (.boolHL, []) ∧
    decode [0xDD, 0xCC] = .ok (.boolIX, []) ∧
    decode [0xFD, 0xCC] = .ok (.boolIY, []) :=
  ⟨rfl, rfl, rfl, rfl, rfl, rfl, rfl, rfl, rfl, rfl⟩

theorem test_decode_arithmetic_16_2 :
    decode [0xDD, 0x2B] = .ok (.decIX, []) ∧
    decode [0xFD, 0x2B] = .ok (.decIY, []) ∧
    decode [0x0B] = .ok (.decSS .bc, []) ∧
    decode [0xDD, 0x23] = .ok (.incIX, []) ∧
    decode [0xFD, 0x23] = .ok (.incIY, []) ∧
    decode [0x13] = .ok (.incSS .de, []) ∧
    decode [0xF7] = .ok (.mul, []) ∧
    decode [0xEC] = .ok (.orHLDE, []) ∧
    decode [0xDD, 0xEC] = .ok (.orIXDE, []) ∧
    decode [0xFD, 0xEC] = .ok (.orIYDE, []) :=
  ⟨rfl, rfl, rfl, rfl, rfl, rfl, rfl, rfl, rfl, rfl⟩

theorem test_decode_arithmetic_16_3 :
    decode [0xF3] = .ok (.rlDE, []) ∧
    decode [0xFB] = .ok (.rrDE, []) ∧
    decode [0xFC] = .ok (.rrHL, []) ∧
    decode [0xDD, 0xFC] = .ok (.rrIX, []) ∧
    decode [0xFD, 0xFC] = .ok (.rrIY, []) ∧
    decode [0xED, 0x62] = .ok (.sbcHLss .hl, []) :=
  ⟨rfl, rfl, rfl, rfl, rfl, rfl⟩

theorem test_decode_arithmetic_8_1 :
    decode [0x8E] = .ok (.adcMhl, []) ∧
    decode [0xDD, 0x8E, 0xFE] = .ok (.adcMix 0xFE, []) ∧
    decode [0xFD, 0x8E, 0xFE] = .ok (.adcMiy 0xFE, []) ∧
    decode [0xCE, 0x5A] = .ok (.adcN 0x5A, []) ∧
    decode [0x8D] = .ok (.adcR .l, []) ∧
    decode [0x86] = .ok (.addMhl, []) ∧
    decode [0xDD, 0x86, 0xFE] = .ok (.addMix 0xFE, []) ∧
    decode [0xFD, 0x86, 0xFE] = .ok (.addMiy 0xFE, []) ∧
    decode [0xC6, 0x5A] = .ok (.addN 0x5A, []) ∧
    decode [0x87] = .ok (.addR .a, []) :=
  ⟨rfl, rfl, rfl, rfl, rfl, rfl, rfl, rfl, rfl, rfl⟩

theorem test_decode_arithmetic_8_2 :
    decode [0xA6] = .ok (.andMhl, []) ∧
    decode [0xDD, 0xA6, 0xFE] = .ok (.andMix 0xFE, []) ∧
    decode [0xFD, 0xA6, 0xFE] = .ok (.andMiy 0xFE, []) ∧
    decode [0xE6, 0x5A] = .ok (.andN 0x5A, []) ∧
    decode [0xA0] = .ok (.andR .b, []) ∧
    decode [0xBE] = .ok (.cpMhl, []) ∧
    decode [0xDD, 0xBE, 0xFE] = .ok (.cpMix 0xFE, []) ∧
    decode [0xFD, 0xBE, 0xFE] = .ok (.cpMiy 0xFE, []) ∧
    decode [0xFE, 0x5A] = .ok (.cpN 0x5A, []) ∧
    decode [0xB9] = .ok (.cpR .c, []) :=
  ⟨rfl, rfl, rfl, rfl, rfl, rfl, rfl, rfl, rfl, rfl⟩

theorem test_decode_arithmetic_8_3 :
    decode [0xB6] = .ok (.orMhl, []) ∧
    decode [0xDD, 0xB6, 0xFE] = .ok (.orMix 0xFE, []) ∧
    decode [0xFD, 0xB6, 0xFE] = .ok (.orMiy 0xFE, []) ∧
    decode [0xF6, 0x5A] = .ok (.orN 0x5A, []) ∧
    decode [0xB2] = .ok (.orR .d, []) ∧
    decode [0xDD, 0x9E, 0xFE] = .ok (.sbcMix 0xFE, []) ∧
    decode [0xFD, 0x9E, 0xFE] = .ok (.sbcMiy 0xFE, []) ∧
    decode [0x9E] = .ok (.sbcMhl, []) ∧
    decode [0xDE, 0x5A] = .ok (.sbcN 0x5A, []) ∧
    decode [0x9B] = .ok (.sbcR .e, []) :=
  ⟨rfl, rfl, rfl, rfl, rfl, rfl, rfl, rfl, rfl, rfl⟩

theorem test_decode_arithmetic_8_4 :
    decode [0x96] = .ok (.subMhl, []) ∧
    decode [0xDD, 0x96, 0xFE] = .ok (.subMix 0xFE, []) ∧
    decode [0xFD, 0x96, 0xFE] = .ok (.subMiy 0xFE, []) ∧
    decode [0xD6, 0x5A] = .ok (.subN 0x5A, []) ∧
    decode [0x94] = .ok (.subR .h, []) ∧
    decode [0xAE] = .ok (.xorMhl, []) ∧
    decode [0xDD, 0xAE, 0xFE] = .ok (.xorMix 0xFE, []) ∧
    decode [0xFD, 0xAE, 0xFE] = .ok (.xorMiy 0xFE, []) ∧
    decode [0xEE, 0x5A] = .ok (.xorN 0x5A, []) ∧
    decode [0xAD] = .ok (.xorR .l, []) :=
  ⟨rfl, rfl, rfl, rfl, rfl, rfl, rfl, rfl, rfl, rfl⟩

theorem test_decode_bits_inc_dec_fast_a_1 :
    decode [0xCB, 0x5E] = .ok (.bitMhl 3, []) ∧
    decode [0xDD, 0xCB, 0xFE, 0x66] = .ok (.bitMix 4 0xFE, []) ∧
    decode [0xFD, 0xCB, 0xFE, 0x6E] = .ok (.bitMiy 5 0xFE, []) ∧
    decode [0xCB, 0x77] = .ok (.bitR 6 .a, []) ∧
    decode [0xCB, 0xBE] = .ok (.resMhl 7, []) ∧
    decode [0xDD, 0xCB, 0xFE, 0x86] = .ok (.resMix 0 0xFE, []) ∧
    decode [0xFD, 0xCB, 0xFE, 0x8E] = .ok (.resMiy 1 0xFE, []) ∧
    decode [0xCB, 0x90] = .ok (.resR 2 .b, []) ∧
    decode [0xCB, 0xDE] = .ok (.setMhl 3, []) ∧
    decode [0xDD, 0xCB, 0xFE, 0xE6] = .ok (.setMix 4 0xFE, []) :=
  ⟨rfl, rfl, rfl, rfl, rfl, rfl, rfl, rfl, rfl, rfl⟩

theorem test_decode_bits_inc_dec_fast_a_2 :
    decode [0xFD, 0xCB, 0xFE, 0xEE] = .ok (.setMiy 5 0xFE, []) ∧
    decode [0xCB, 0xF1] = .ok (.setR 6 .c, []) ∧
    decode [0x35] = .ok (.decMhl, []) ∧
    decode [0xDD, 0x35, 0xFE] = .ok (.decMix 0xFE, []) ∧
    decode [0xFD, 0x35, 0xFE] = .ok (.decMiy 0xFE, []) ∧
    decode [0x15] = .ok (.decR .d, []) ∧
    decode [0x34] = .ok (.incMhl, []) ∧
    decode [0xDD, 0x34, 0xFE] = .ok (.incMix 0xFE, []) ∧
    decode [0xFD, 0x34, 0xFE] = .ok (.incMiy 0xFE, []) ∧
    decode [0x1C] = .ok (.incR .e, []) :=
  ⟨rfl, rfl, rfl, rfl, rfl, rfl, rfl, rfl, rfl, rfl⟩

theorem test_decode_bits_inc_dec_fast_a_3 :
    decode [0x2F] = .ok (.cpl, []) ∧
    decode [0xED, 0x44] = .ok (.neg, []) ∧
    decode [0x17] = .ok (.rla, []) ∧
    decode [0x07] = .ok (.rlca, []) ∧
    decode [0x1F] = .ok (.rra, []) ∧
    decode [0x0F] = .ok (.rrca, []) :=
  ⟨rfl, rfl, rfl, rfl, rfl, rfl⟩

theorem test_decode_shifts_rotates_1 :
    decode [0xCB, 0x16] = .ok (.rlMhl, []) ∧
    decode [0xDD, 0xCB, 0xFE, 0x16] = .ok (.rlMix 0xFE, []) ∧
    decode [0xFD, 0xCB, 0xFE, 0x16] = .ok (.rlMiy 0xFE, []) ∧
    decode [0xCB, 0x14] = .ok (.rlR .h, []) ∧
    decode [0xCB, 0x06] = .ok (.rlcMhl, []) ∧
    decode [0xDD, 0xCB, 0xFE, 0x06] = .ok (.rlcMix 0xFE, []) ∧
    decode [0xFD, 0xCB, 0xFE, 0x06] = .ok (.rlcMiy 0xFE, []) ∧
    decode [0xCB, 0x05] = .ok (.rlcR .l, []) ∧
    decode [0xCB, 0x1E] = .ok (.rrMhl, []) ∧
    decode [0xDD, 0xCB, 0xFE, 0x1E] = .ok (.rrMix 0xFE, []) :=
  ⟨rfl, rfl, rfl, rfl, rfl, rfl, rfl, rfl, rfl, rfl⟩

theorem test_decode_shifts_rotates_2 :
    decode [0xFD, 0xCB, 0xFE, 0x1E] = .ok (.rrMiy 0xFE, []) ∧
    decode [0xCB, 0x1F] = .ok (.rrR .a, []) ∧
    decode [0xCB, 0x0E] = .ok (.rrcMhl, []) ∧
    decode [0xDD, 0xCB, 0xFE, 0x0E] = .ok (.rrcMix 0xFE, []) ∧
    decode [0xFD, 0xCB, 0xFE, 0x0E] = .ok (.rrcMiy 0xFE, []) ∧
    decode [0xCB, 0x08] = .ok (.rrcR .b, []) ∧
    decode [0xCB, 0x26] = .ok (.slaMhl, []) ∧
    decode [0xDD, 0xCB, 0xFE, 0x26] = .ok (.slaMix 0xFE, []) ∧
    decode [0xFD, 0xCB, 0xFE, 0x26] = .ok (.slaMiy 0xFE, []) ∧
    decode [0xCB, 0x21] = .ok (.slaR .c, []) :=
  ⟨rfl, rfl, rfl, rfl, rfl, rfl, rfl, rfl, rfl, rfl⟩

theorem test_decode_shifts_rotates_3 :
    decode [0xCB, 0x2E] = .ok (.sraMhl, []) ∧
    decode [0xDD, 0xCB, 0xFE, 0x2E] = .ok (.sraMix 0xFE, []) ∧
    decode [0xFD, 0xCB, 0xFE, 0x2E] = .ok (.sraMiy 0xFE, []) ∧
    decode [0xCB, 0x2A] = .ok (.sraR .d, []) ∧
    decode [0xCB, 0x3E] = .ok (.srlMhl, []) ∧
    decode [0xDD, 0xCB, 0xFE, 0x3E] = .ok (.srlMix 0xFE, []) ∧
    decode [0xFD, 0xCB, 0xFE, 0x3E] = .ok (.srlMiy 0xFE, []) ∧
    decode [0xCB, 0x3B] = .ok (.srlR .e, []) :=
  ⟨rfl, rfl, rfl, rfl, rfl, rfl, rfl, rfl⟩

theorem test_decode_prefixes :
    decode [0x76, 0xDD, 0x23] = .ok (.altd .incIX, []) ∧
    decode [0xDB, 0xDD, 0x23] = .ok (.ioe .incIX, []) ∧
    decode [0xD3, 0xDD, 0x23] = .ok (.ioi .incIX, []) :=
  ⟨rfl, rfl, rfl⟩

theorem test_decode_block_moves :
    decode [0xED, 0xA8] = .ok (.ldd, []) ∧
    decode [0xED, 0xB8] = .ok (.lddr, []) ∧
    decode [0xED, 0xA0] = .ok (.ldi, []) ∧
    decode [0xED, 0xB0] = .ok (.ldir, []) :=
  ⟨rfl, rfl, rfl, rfl⟩

theorem test_decode_control_1 :
    decode [0xCD, 0x34, 0x12] = .ok (.callMn 0x1234, []) ∧
    decode [0x10, 0x80] = .ok (.djnz 0x80, []) ∧
    decode [0xE9] = .ok (.jpHL, []) ∧
    decode [0xDD, 0xE9] = .ok (.jpIX, []) ∧
    decode [0xFD, 0xE9] = .ok (.jpIY, []) ∧
    decode [0xDA, 0x34, 0x12] = .ok (.jpF .c 0x1234, []) ∧
    decode [0xC3, 0x34, 0x12] = .ok (.jpMn 0x1234, []) ∧
    decode [0x38, 0x80] = .ok (.jrCC .c 0x80, []) ∧
    decode [0x18, 0x80] = .ok (.jrE 0x80, []) ∧
    decode [0xCF, 0x34, 0x12, 0x7A] = .ok (.lcall 0x7A 0x1234, []) :=
  ⟨rfl, rfl, rfl, rfl, rfl, rfl, rfl, rfl, rfl, rfl⟩

theorem test_decode_control_2 :
    decode [0xC7, 0x34, 0x12, 0x7A] = .ok (.ljp 0x7A 0x1234, []) ∧
    decode [0xED, 0x45] = .ok (.lret, []) ∧
    decode [0xC9] = .ok (.ret, []) ∧
    decode [0xE0] = .ok (.retF .lz, []) ∧
    decode [0xED, 0x4D] = .ok (.reti, []) ∧
    decode [0xEF] = .ok (.rst .v28, []) :=
  ⟨rfl, rfl, rfl, rfl, rfl, rfl⟩

theorem test_decode_miscellaneous :
    decode [0x3F] = .ok (.ccf, []) ∧
    decode [0xED, 0x46] = .ok (.ipset0, []) ∧
    decode [0xED, 0x56] = .ok (.ipset1, []) ∧
    decode [0xED, 0x4E] = .ok (.ipset2, []) ∧
    decode [0xED, 0x5E] = .ok (.ipset3, []) ∧
    decode [0xED, 0x5D] = .ok (.ipres, []) ∧
    decode [0x00] = .ok (.nop, []) ∧
    decode [0x37] = .ok (.scf, []) :=
  ⟨rfl, rfl, rfl, rfl, rfl, rfl, rfl, rfl⟩

theorem test_decode_every_field_code :
    [0x3E, 0x06, 0x0E, 0x16, 0x1E, 0x26, 0x2E].map (fun b => (decode [b, 0]).toOption) =
      [R8.a, .b, .c, .d, .e, .h, .l].map (fun r => some (.ldRN r 0, [])) ∧
    [0xC2, 0xCA, 0xD2, 0xDA, 0xE2, 0xEA, 0xF2, 0xFA].map (fun b => (decode [b, 0, 0]).toOption) =
      [CondF.nz, .z, .nc, .c, .lz, .lo, .p, .m].map (fun f => some (.jpF f 0, [])) ∧
    [0xD7, 0xDF, 0xE7, 0xEF, 0xFF].map (fun b => (decode [b]).toOption) =
      [Rst.v10, .v18, .v20, .v28, .v38].map (fun v => some (.rst v, [])) ∧
    [0xC1, 0xD1, 0xE1, 0xF1].map (fun b => (decode [b]).toOption) =
      [ZZ.bc, .de, .hl, .af].map (fun z => some (.popZZ z, [])) := ⟨rfl, rfl, rfl, rfl⟩

/-- The table numbers the first byte as the most significant one (30_encoding.md R72): rows `LD IX,mn`, `ALTD` and
`EX DE,HL'`. -/
theorem test_decode_table_words :
    decodeTableWord 32 0xDD210000 = some (.ldIXmn 0) ∧ decodeTableWord 8 0x76 = some (.altd .nop) ∧
      decodeTableWord 16 0x76EB = some .exDEHLa ∧ decodeTableWord 16 0xCB30 = none := ⟨rfl, rfl, rfl, rfl⟩

/-! ## Single steps: the vectors of spec/95_test_vectors.md, whose numbers stand in the names -/

/-- The start of the vectors: every register 0, `Translate` the identity on 16 bits (95_test_vectors.md). -/
def base : State := { State.reset with translation := .identity, ip := 0 }

/-- `base` with A and F. -/
def accum (a f : Byte) : State := { base with main := { Bank.reset with a := a, f := f } }

/-- `base` with HL, DE, BC and F. -/
def pairs (hl de bc : Word) (f : Byte) : State :=
  { base with main := (((({ Bank.reset with f := f } : Bank).setHL hl).setDE de).setBC bc) }

/-- The state after the instruction that the bytes encode. -/
def run (bs : List Byte) (s : State) : Option State :=
  match decode bs with
  | .error _ => none
  | .ok (i, _) =>
    match exec i s with
    | .next t => some t
    | .fault _ => none
    | .refused _ => none

/-- The state after the steps of these instructions. -/
def runs : List (List Byte) → State → Option State
  | [], s => some s
  | b :: bs, s => (run b s).bind (runs bs)

/-- A and F. -/
def af (t : State) : Byte × Byte := (t.main.a, t.main.f)

theorem test_V1_1_ld_dd_mn_byte_order :
    (run [0x21, 0x34, 0x12] base).map (fun t => (t.hl, t.pc)) = some (0x1234, 3) ∧
      (run [0x31, 0x00, 0xE0] base).map (fun t => t.sp) = some 0xE000 := by decide

theorem test_V1_2_altd_ld_dd_mn :
    (run [0x76, 0x21, 0x34, 0x12] (pairs 0x1111 0 0 0)).map (fun t => (t.alt.hl, t.hl, t.pc)) =
      some (0x1234, 0x1111, 4) ∧
    (run [0x76, 0x31, 0x00, 0xE0] base).map (fun t => t.sp) = some 0xE000 := by decide

theorem test_V1_3_store_and_load_word :
    (run [0x22, 0x00, 0x40] (pairs 0xBEEF 0 0 0)).map (fun t => t.mem) = some [(0x4000, 0xEF), (0x4001, 0xBE)] ∧
    (run [0x2A, 0x00, 0x40] { base with mem := [(0x4000, 0xEF), (0x4001, 0xBE)] }).map (fun t => t.hl) =
      some 0xBEEF := by decide

theorem test_V1_4_second_byte_wraps :
    (run [0x22, 0xFF, 0xFF] (pairs 0xBEEF 0 0 0)).map (fun t => t.mem) = some [(0, 0xBE), (0xFFFF, 0xEF)] := by decide

theorem test_V1_5_io_store :
    (run [0xD3, 0x32, 0x00, 0x01] (accum 0x5A 0)).map (fun t => (t.ioWrites, t.mem)) =
      some ([⟨.int, 0x0100, 0x5A⟩], []) ∧
    (run [0xDB, 0x32, 0x00, 0x01] (accum 0x5A 0)).map (fun t => (t.ioWrites, t.mem)) =
      some ([⟨.ext, 0x0100, 0x5A⟩], []) := by decide

theorem test_V1_6_io_load_with_altd :
    (run [0x76, 0xD3, 0x3A, 0x00, 0x01] (accum 0x5A 0)).map (fun t => (t.main.a, t.pc, t.ioReads)) =
      some (0x5A, 5, 1) := by decide

theorem test_V2_1_negative_displacement :
    (run [0xDD, 0x7E, 0xFF] { base with ix := 0x4000, mem := [(0x3FFF, 0x99)] }).map (fun t => t.main.a) = some 0x99 ∧
    (run [0xDD, 0x7E, 0xFF] { base with ix := 0, mem := [(0xFFFF, 0x98)] }).map (fun t => t.main.a) =
      some 0x98 := by decide

theorem test_V2_2_store_indexed_constant :
    (run [0xDD, 0x36, 0x7F, 0xAB] { base with ix := 0x4000 }).map (fun t => t.mem) = some [(0x407F, 0xAB)] ∧
    (run [0xDD, 0x36, 0x80, 0xAB] { base with ix := 0x4000 }).map (fun t => t.mem) = some [(0x3F80, 0xAB)] := by decide

theorem test_V2_3_sp_offset_is_unsigned :
    (run [0xD4, 0xFF] { pairs 0x4321 0 0 0 with sp := 0xDFF0 }).map (fun t => t.mem) =
      some [(0xE0EF, 0x21), (0xE0F0, 0x43)] ∧
    (run [0xC4, 0x02] { base with sp := 0xDFF0, mem := [(0xDFF2, 0x21), (0xDFF3, 0x43)] }).map (fun t => t.hl) =
      some 0x4321 := by decide

theorem test_V2_4_load_hl_through_hl :
    (run [0xDD, 0xE4, 0x02] { pairs 0x4000 0 0 0 with mem := [(0x4002, 0x78), (0x4003, 0x56)] }).map (fun t => t.hl) =
      some 0x5678 := by decide

theorem test_V2_5_store_hl_through_hl :
    (run [0xDD, 0xF4, 0xFE] (pairs 0x4000 0 0 0)).map (fun t => t.mem) = some [(0x3FFE, 0x00), (0x3FFF, 0x40)] := by
  decide

theorem test_V2_7_ldp_page_is_low_nibble_of_a :
    (run [0xED, 0x64] { pairs 0x1000 0 0 0 with main := { (pairs 0x1000 0 0 0).main with a := 0xF5 } }).map
      (fun t => t.mem) = some [(0x51000, 0x00), (0x51001, 0x10)] := by decide

theorem test_S1_ldp_wraps_in_its_page :
    (run [0xED, 0x6C] { pairs 0xFFFF 0 0 0 with
        main := { (pairs 0xFFFF 0 0 0).main with a := 3 }
        mem := [(0x30000, 0xBB), (0x3FFFF, 0xAA), (0x40000, 0xCC)] }).map (fun t => t.hl) = some 0xBBAA ∧
    (run [0xDD, 0x64] { pairs 0x1234 0 0 0 with
        main := { (pairs 0x1234 0 0 0).main with a := 3 }, ix := 0xFFFF }).map (fun t => t.mem) =
      some [(0x30000, 0x12), (0x3FFFF, 0x34)] := by decide

theorem test_S2_privileged_load_of_sp :
    (run [0xF9] (pairs 0xD000 0 0 0)).map (fun t => (t.sp, t.inhibit)) = some (0xD000, true) := by decide

theorem test_S3_ip_is_a_stack :
    (runs [[0xED, 0x56], [0xED, 0x4E], [0xED, 0x5E], [0xED, 0x46]] base).map (fun t => t.ip) = some 0x6C ∧
    (runs [[0xED, 0x5D], [0xED, 0x5D]] { base with ip := 0xB1 }).map (fun t => t.ip) = some 0x1B := by decide

theorem test_S4_reti :
    (run [0xED, 0x4D] { base with sp := 0xDFFD, mem := [(0xDFFD, 0x01), (0xDFFE, 0x34), (0xDFFF, 0x12)] }).map
      (fun t => (t.ip, t.pc, t.sp, t.inhibit)) = some (0x01, 0x1234, 0xE000, true) := by decide

theorem test_V3_2_ld_a_iir_writes_s_and_z :
    (run [0xED, 0x5F] { accum 0 0x45 with iir := 0x80 }).map af = some (0x80, 0x85) ∧
      (run [0xED, 0x57] (accum 1 0x85)).map af = some (0x00, 0x45) ∧
      (run [0xED, 0x77] { accum 1 0x85 with xpc := 0x33 }).map af = some (0x33, 0x85) := by decide

theorem test_V3_3_push_order :
    (run [0xC5] { pairs 0 0 0x1234 0 with sp := 0xE000 }).map (fun t => (t.sp, t.mem)) =
      some (0xDFFE, [(0xDFFE, 0x34), (0xDFFF, 0x12)]) ∧
    (run [0xD1] { base with sp := 0xDFFE, mem := [(0xDFFE, 0x34), (0xDFFF, 0x12)] }).map (fun t => (t.sp, t.de)) =
      some (0xE000, 0x1234) := by decide

theorem test_V3_4_pop_af_gives_the_flags :
    (run [0xF1] { base with sp := 0x4000, mem := [(0x4000, 0x41), (0x4001, 0x9A)] }).map
      (fun t => (t.main.a, flagS t.main.f, flagZ t.main.f, flagLV t.main.f, flagC t.main.f)) =
      some (0x9A, false, true, false, true) := by decide

theorem test_V3_5_push_ip_is_one_byte :
    (run [0xED, 0x76] { base with sp := 0xE000, ip := 0x1B }).map (fun t => (t.sp, t.mem, t.inhibit)) =
      some (0xDFFF, [(0xDFFF, 0x1B)], false) ∧
    (run [0xED, 0x7E] { base with sp := 0xDFFF, mem := [(0xDFFF, 0x1B)] }).map (fun t => (t.sp, t.ip, t.inhibit)) =
      some (0xE000, 0x1B, true) := by decide

theorem test_V3_6_ex_sp_hl :
    (run [0x76, 0xED, 0x54] { pairs 0x1111 0 0 0 with sp := 0xDFF0, mem := [(0xDFF0, 0x22), (0xDFF1, 0x33)] }).map
      (fun t => (t.alt.hl, t.hl, t.mem)) = some (0x3322, 0x1111, [(0xDFF0, 0x11), (0xDFF1, 0x11)]) := by decide

/-- DE = 0x1111, HL = 0x2222, DE' = 0x3333, HL' = 0x4444. -/
def twoBanks : State := { pairs 0x2222 0x1111 0 0 with alt := (Bank.reset.setDE 0x3333).setHL 0x4444 }

/-- DE, HL, DE', HL'. -/
def deHl (t : State) : Word × Word × Word × Word := (t.de, t.hl, t.alt.de, t.alt.hl)

theorem test_V3_7_ex_de_hl_family :
    (run [0xEB] twoBanks).map deHl = some (0x2222, 0x1111, 0x3333, 0x4444) ∧
    (run [0x76, 0xEB] twoBanks).map deHl = some (0x4444, 0x2222, 0x3333, 0x1111) ∧
    (run [0xE3] twoBanks).map deHl = some (0x1111, 0x3333, 0x2222, 0x4444) ∧
    (run [0x76, 0xE3] twoBanks).map deHl = some (0x1111, 0x2222, 0x4444, 0x3333) := by decide

theorem test_V3_8_exx :
    (run [0xD9] twoBanks).map deHl = some (0x3333, 0x4444, 0x1111, 0x2222) := by decide

theorem test_V3_9_add_sp_d :
    [(0xE000, 0x04), (0xE000, 0xFC), (0xFFFE, 0x04), (0x0002, 0xFC), (0x0002, 0x80)].map
      (fun x : Word × Byte => (run [0x27, x.2] { base with sp := x.1 }).map fun t => (t.sp, t.main.f)) =
      [some (0xE004, 0), some (0xDFFC, 1), some (0x0002, 1), some (0xFFFE, 0), some (0xFF82, 0)] := by decide

theorem test_V4_1_add_and_adc :
    [(0x7F, 0x01), (0xFF, 0x01), (0x80, 0x80), (0x12, 0x34)].map
      (fun x : Byte × Byte => (run [0xC6, x.2] (accum x.1 1)).map af) =
      [some (0x80, 0x84), some (0x00, 0x41), some (0x00, 0x45), some (0x46, 0x00)] ∧
    [(0xFF, 0x00), (0x7F, 0x7F)].map (fun x : Byte × Byte => (run [0xCE, x.2] (accum x.1 1)).map af) =
      [some (0x00, 0x41), some (0xFF, 0x84)] := by decide

theorem test_V4_2_cp_and_sbc :
    [(0x10, 0x20), (0x80, 0x01), (0x7F, 0xFF), (0x42, 0x42)].map
      (fun x : Byte × Byte => (run [0xFE, x.2] (accum x.1 0)).map af) =
      [some (0x10, 0x81), some (0x80, 0x04), some (0x7F, 0x85), some (0x42, 0x40)] ∧
    [(0x00, 0x00), (0x05, 0x05), (0x00, 0xFF)].map (fun x : Byte × Byte => (run [0xDE, x.2] (accum x.1 1)).map af) =
      [some (0xFF, 0x81), some (0xFF, 0x81), some (0x00, 0x41)] := by decide

theorem test_V4_3_sub_but_for_the_open_carry :
    [(0x10, 0x20), (0x80, 0x01), (0x42, 0x42)].map
      (fun x : Byte × Byte => (run [0xD6, x.2] (accum x.1 0)).map
        fun t => t.main.a) = [some 0xF0, some 0x7F, some 0x00] ∧
    subCarry .borrow true = true ∧ subCarry .opposite true = false := by decide

theorem test_V4_4_logical :
    (run [0xE6, 0x81] (accum 0xFF 1)).map af = some (0x81, 0x84) ∧
    (run [0xF6, 0x5A] (accum 0x5A 1)).map af = some (0x5A, 0x04) ∧
    (run [0xEE, 0x0F] (accum 0x0F 1)).map af = some (0x00, 0x40) := by decide

theorem test_V5_1_bit :
    (run [0xCB, 0x78] { accum 0 0x81 with main := { (accum 0 0x81).main with b := 0x80 } }).map af = some (0, 0x81) ∧
    (run [0xCB, 0x40] { accum 0 0x81 with main := { (accum 0 0x81).main with b := 0x80 } }).map
      (fun t => (t.main.f, t.inhibit)) = some (0xC1, false) ∧
    (run [0xCB, 0x46] { base with mem := [(0, 1)] }).map (fun t => (t.main.f, t.inhibit)) = some (0x00, true) := by
  decide

theorem test_V5_2_set_and_res :
    (run [0xCB, 0xFF] (accum 0x00 0x41)).map af = some (0x80, 0x41) ∧
    (run [0xDD, 0xCB, 0x05, 0x86] { base with ix := 0x4000, mem := [(0x4005, 0xFF)] }).map (fun t => t.mem) =
      some [(0x4005, 0xFE)] ∧
    (run [0x76, 0xCB, 0xC0] { base with main := { Bank.reset with b := 0x10 } }).map
      (fun t => (t.main.b, t.alt.b)) = some (0x10, 0x11) := by decide

theorem test_V5_3_inc_and_dec_keep_c :
    [0x7F, 0xFF, 0x00].map (fun a : Byte => (run [0x3C] (accum a 1)).map af) =
      [some (0x80, 0x85), some (0x00, 0x41), some (0x01, 0x01)] ∧
    [0x80, 0x00, 0x01].map (fun a : Byte => (run [0x3D] (accum a 1)).map af) =
      [some (0x7F, 0x05), some (0xFF, 0x81), some (0x00, 0x41)] := by decide

theorem test_V5_4_neg :
    [0x00, 0x01, 0x80, 0xFF].map (fun a : Byte => (run [0xED, 0x44] (accum a 0)).map af) =
      [some (0x00, 0x40), some (0xFF, 0x81), some (0x80, 0x85), some (0x01, 0x01)] := by decide

theorem test_V5_5_cpl_V5_6_fast_rotates :
    (run [0x2F] (accum 0x5A 0xC5)).map af = some (0xA5, 0xC5) ∧
    [0x17, 0x07, 0x1F, 0x0F].map (fun op : Byte => (run [op] (accum 0x81 0x40)).map af) =
      [some (0x02, 0x41), some (0x03, 0x41), some (0x40, 0x41), some (0xC0, 0x41)] := by decide

theorem test_V6_shifts_and_rotates :
    [(0x17, 0x81, 1), (0x17, 0x08, 1), (0x07, 0x81, 0), (0x1F, 0x01, 0), (0x0F, 0x01, 0), (0x27, 0x80, 0),
      (0x2F, 0x80, 1), (0x3F, 0x81, 0)].map
      (fun x : Byte × Byte × Byte => (run [0xCB, x.1] (accum x.2.1 x.2.2)).map af) =
      [some (0x03, 0x01), some (0x11, 0x04), some (0x03, 0x01), some (0x00, 0x41), some (0x80, 0x85),
        some (0x00, 0x41), some (0xC0, 0x84), some (0x40, 0x05)] := by decide

theorem test_V6_shift_in_memory :
    (run [0xDD, 0xCB, 0xFE, 0x16] { accum 0 1 with ix := 0x4000, mem := [(0x3FFE, 0x81)] }).map
      (fun t => (t.mem, t.main.f, t.pc)) = some ([(0x3FFE, 0x03)], 0x01, 4) := by decide

theorem test_V7_1_adc_and_add_hl :
    (run [0xED, 0x5A] (pairs 0x7FFF 0x0001 0 0)).map (fun t => (t.hl, t.main.f)) = some (0x8000, 0x84) ∧
    (run [0xED, 0x5A] (pairs 0xFFFF 0 0 1)).map (fun t => (t.hl, t.main.f)) = some (0x0000, 0x41) ∧
    (run [0x19] (pairs 0x8000 0x8000 0 0xC4)).map (fun t => (t.hl, t.main.f)) = some (0x0000, 0xC5) := by decide

theorem test_V7_2_sbc_hl :
    (run [0xED, 0x42] (pairs 0x8000 0 0x0001 0)).map (fun t => (t.hl, t.main.f)) = some (0x7FFF, 0x04) ∧
    (run [0xED, 0x42] (pairs 0x1234 0 0x1234 1)).map (fun t => (t.hl, t.main.f)) = some (0xFFFF, 0x81) := by decide

theorem test_V7_3_and_or_hl_V7_4_bool :
    (run [0xDC] (pairs 0x0FFF 0x0FFF 0 1)).map (fun t => (t.hl, t.main.f)) = some (0x0FFF, 0x00) ∧
    (run [0xEC] (pairs 0x1234 0xF000 0 1)).map (fun t => (t.hl, t.main.f)) = some (0xF234, 0x84) ∧
    (run [0xCC] (pairs 0x8000 0 0 0xFF)).map (fun t => (t.hl, t.main.f)) = some (0x0001, 0x3A) := by decide

theorem test_V7_5_rotates_of_words :
    (run [0xF3] (pairs 0 0x8001 0 1)).map (fun t => (t.de, t.main.f)) = some (0x0003, 0x01) ∧
    (run [0xFC] (pairs 0x8001 0 0 0)).map (fun t => (t.hl, t.main.f)) = some (0x4000, 0x05) := by decide

theorem test_V7_6_mul :
    [(0x1234, 0x0010), (0xFFFF, 0x0002), (0x8000, 0x8000), (0x8000, 0x0001)].map
      (fun x : Word × Word => (run [0xF7] (pairs 0 x.2 x.1 0)).map fun t => (t.hl, t.bc)) =
      [some (0x0001, 0x2340), some (0xFFFF, 0xFFFE), some (0x4000, 0x0000), some (0xFFFF, 0x8000)] := by decide

theorem test_V7_7_inc_and_dec_words :
    (run [0x03] (pairs 0 0 0xFFFF 0xC5)).map (fun t => (t.bc, t.main.f)) = some (0x0000, 0xC5) ∧
    (run [0xDD, 0x2B] base).map (fun t => (t.ix, t.main.f)) = some (0xFFFF, 0x00) := by decide

theorem test_V8_1_ldi :
    (run [0xED, 0xA0] { pairs 0x4000 0x5000 2 0 with mem := [(0x4000, 0x7E)] }).map
      (fun t => (t.hl, t.de, t.bc, t.mem)) =
      some (0x4001, 0x5001, 1, [(0x4000, 0x7E), (0x5000, 0x7E)]) := by decide

theorem test_V8_2_ldd :
    (run [0xED, 0xA8] { pairs 0x4001 0x5001 1 0 with mem := [(0x4001, 0x7E)] }).map
      (fun t => (t.hl, t.de, t.bc, t.main.f)) = some (0x4000, 0x5000, 0, 0x04) := by decide

theorem test_V8_3_ldir_stays_until_bc_is_0 :
    (run [0xED, 0xB0] { pairs 0x4000 0x5000 3 0 with pc := 0x0100, mem := [(0x4000, 0x7E)] }).map
      (fun t => (t.bc, t.pc)) = some (2, 0x0100) ∧
    (run [0xED, 0xB0] { pairs 0x4000 0x5000 1 0 with pc := 0x0100, mem := [(0x4000, 0x7E)] }).map
      (fun t => (t.bc, t.pc, t.main.f)) = some (0, 0x0102, 0x04) := by decide

theorem test_V8_5_ioi_ldir :
    (run [0xD3, 0xED, 0xB0] { pairs 0x4000 0x5000 2 0 with pc := 0x0100, mem := [(0x4000, 0x7E)] }).map
      (fun t => (t.ioWrites, t.mem, t.pc)) = some ([⟨.int, 0x5000, 0x7E⟩], [(0x4000, 0x7E)], 0x0100) := by decide

theorem test_V8_7_altd_nop : (run [0x76, 0x00] base).map (fun t => decide (t = { base with pc := 2 })) = some true := by
  decide

theorem test_V9_1_call_and_ret :
    (run [0xCD, 0x00, 0x20] { base with pc := 0x1000, sp := 0xE000 }).map (fun t => (t.pc, t.sp, t.mem)) =
      some (0x2000, 0xDFFE, [(0xDFFE, 0x03), (0xDFFF, 0x10)]) ∧
    (run [0xC9] { base with sp := 0xDFFE, mem := [(0xDFFE, 0x03), (0xDFFF, 0x10)] }).map (fun t => (t.pc, t.sp)) =
      some (0x1003, 0xE000) := by decide

theorem test_V9_2_conditional_jump :
    (run [0xCA, 0x00, 0x30] (accum 0 0x40)).map (fun t => t.pc) = some 0x3000 ∧
      (run [0xC2, 0x00, 0x30] (accum 0 0x40)).map (fun t => t.pc) = some 3 ∧
      (run [0xEA, 0x00, 0x30] (accum 0 0x04)).map (fun t => t.pc) = some 0x3000 ∧
      (run [0xE2, 0x00, 0x30] (accum 0 0x04)).map (fun t => t.pc) = some 3 := by decide

theorem test_V9_3_jr_cc_S6_jr :
    (run [0x38, 0x10] { accum 0 1 with pc := 0x0100 }).map (fun t => t.pc) = some 0x0112 ∧
    (run [0x38, 0x10] { accum 0 0 with pc := 0x0100 }).map (fun t => t.pc) = some 0x0102 ∧
    (run [0x18, 0x80] { base with pc := 0x0100 }).map (fun t => t.pc) = some 0x0082 := by decide

theorem test_V9_4_djnz :
    [2, 1, 0].map (fun b : Byte => (run [0x10, 0xFE]
      { base with pc := 0x0100, main := { Bank.reset with b := b } }).map fun t => (t.main.b, t.pc)) =
      [some (1, 0x0100), some (0, 0x0102), some (0xFF, 0x0100)] ∧
    (run [0x76, 0x10, 0xFE] { base with pc := 0x0100, main := { Bank.reset with b := 2 } }).map
      (fun t => (t.main.b, t.alt.b, t.pc)) = some (2, 1, 0x0101) := by decide

theorem test_V9_5_ret_f :
    (run [0xC8] { accum 0 0 with sp := 0x4000, mem := [(0x4000, 0x03), (0x4001, 0x10)] }).map
      (fun t => (t.pc, t.sp)) = some (1, 0x4000) ∧
    (run [0xC8] { accum 0 0x40 with sp := 0x4000, mem := [(0x4000, 0x03), (0x4001, 0x10)] }).map
      (fun t => (t.pc, t.sp)) = some (0x1003, 0x4002) := by decide

theorem test_V9_6_lcall_and_lret :
    (run [0xCF, 0x00, 0xE0, 0x7A] { base with pc := 0x1000, sp := 0xE000, xpc := 5 }).map
      (fun t => (t.pc, t.xpc, t.sp, t.mem)) =
      some (0xE000, 0x7A, 0xDFFD, [(0xDFFD, 0x04), (0xDFFE, 0x10), (0xDFFF, 0x05)]) ∧
    (run [0xED, 0x45] { base with sp := 0xDFFD, mem := [(0xDFFD, 0x04), (0xDFFE, 0x10), (0xDFFF, 0x05)] }).map
      (fun t => (t.pc, t.xpc, t.sp)) = some (0x1004, 0x05, 0xE000) := by decide

theorem test_S7_restart_addresses :
    [0xD7, 0xDF, 0xE7, 0xEF, 0xFF].map (fun op : Byte => (run [op] { base with iir := 0x3F, sp := 0xE000 }).map
      fun t => t.pc) = [some 0x3F20, some 0x3F30, some 0x3F40, some 0x3F50, some 0x3F70] := by decide

theorem test_V9_8_pc_wraps : (run [0x00] { base with pc := 0xFFFF }).map (fun t => t.pc) = some 0 := by decide

theorem test_V10_1_interrupt_entry :
    let t := State.boundary { base with pc := 0x0123, sp := 0xE000, irq := [some ⟨.p1, 0x2000⟩] }
    (t.pc, t.sp, t.ip, t.mem, t.inhibit) = (0x2000, 0xDFFE, 0x01, [(0xDFFE, 0x23), (0xDFFF, 0x01)], false) := by decide

theorem test_V10_2_masking :
    (State.boundary { base with ip := 0x01, irq := [some ⟨.p1, 0x2000⟩] }).pc = 0 ∧
    (State.boundary { base with ip := 0x01, irq := [some ⟨.p2, 0x2000⟩] }).ip = 0x06 ∧
    (State.boundary { base with ip := 0xFF, irq := [some ⟨.p3, 0x2000⟩] }).pc = 0 ∧
    (State.boundary { base with inhibit := true, irq := [some ⟨.p3, 0x2000⟩] }).pc = 0 := by decide

theorem test_V10_5_ccf_and_scf :
    (run [0x37] (accum 0 0xC4)).map af = some (0, 0xC5) ∧ (run [0x3F] (accum 0 0xC5)).map af = some (0, 0xC4) ∧
    (run [0x76, 0x3F] (accum 0 0xC4)).map (fun t => (t.main.f, t.alt.f)) = some (0xC4, 0x01) := by decide

/-- P1's first instruction, fetched from memory by `step`; and `withFetchWord` places a table word where `step`
fetches. -/
theorem test_step_fetches_at_pc :
    (match step { base with
        pc := 0xFFFE, mem := [(0, 0x40), (1, 0), (2, 0), (3, 0), (0xFFFE, 0x21), (0xFFFF, 0x00)] } with
      | .next t => decide (t.hl = 0x4000 ∧ t.pc = 1)
      | _ => false) = true ∧
    (match step (State.reset.withFetchWord 32 0xDD210000) with
      | .next t => decide (t.ix = 0 ∧ t.pc = 4)
      | _ => false) = true := by decide

/-- The segmented translation of 93_implementation_defined.md G6: root, data, stack and XPC segments. -/
theorem test_segmented_translation :
    let m : SegMap := ⟨0x13, 0x12, 0x11, 0xD8, 0x70, 0x80⟩
    [0x7FFF, 0x8000, 0xCFFF, 0xD000, 0xE000, 0xFFFF].map (fun a : Word => m.apply 0x10 [] a) =
      [0x07FFF, 0x78000, 0x7CFFF, 0x8D000, 0x1E000, 0x1FFFF] ∧
    m.apply 0x10 [(0x12, 0x01), (0x12, 0x02)] 0x8000 = 0x0A000 := by decide

/-! ## Clocks (70_reset_and_hazards.md R440, 47_prefix_block.md R311, R315; the figures beside the machine) -/

/-- `ALTD LD A,5` takes 2 + 4, two prefixes add 4, and `RET Z` takes 8 or 2, whatever `firstStep` says. -/
theorem test_clocks_of_prefixes_and_conditional_returns :
    [true, false].map (fun b => clocks b 0 .altd (.ldRN .a 5) base) = [6, 6] ∧
    [true, false].map (fun b => clocks b 0 .altdIoi (.ldAMmn 0x0100) base) = [13, 13] ∧
    [true, false].map (fun b => clocks b 0 .altd (.djnz 0) base) = [7, 7] ∧
    clocks true 0 .none (.retF .z) (accum 0 0x40) = 8 ∧ clocks true 0 .none (.retF .z) (accum 0 0x00) = 2 := by decide

/-- The steps of a block move of three bytes: 6 + 7 * 3 = 27; behind IOE with one wait state 2 + 3 * 3 more; `IOI LDI`
takes 2 + 10 + 1. -/
theorem test_clocks_of_block_moves :
    clocks true 0 .none .ldir base + 2 * clocks false 0 .none .ldir base = 27 ∧
    clocks true 1 .ioe .ldir base + 2 * clocks false 1 .ioe .ldir base = 38 ∧
    [true, false].map (fun b => clocks b 0 .ioi .ldi base) = [13, 13] := by decide

/-! ## Witnesses: for every obligation with hypotheses, a concrete state and operands that meet them -/

/-- Memory holding `LD (0x4000),A` at 0 and the five bytes behind it. -/
def programA : State := { base with mem := [(0, 0x32), (1, 0x00), (2, 0x40), (3, 0), (4, 0), (5, 0)] }

theorem witness_StepKeepsMemoryCanonical : programA.Canonical ∧ ∃ t, step programA = .next t :=
  ⟨by decide, _, rfl⟩

theorem witness_StepKeepsMemoryCanonical_at_the_top_address :
    let s : State := { programA with mem := programA.mem ++ [(0xFFFFF, 7)] }
    s.Canonical ∧ ∃ t, step s = .next t := ⟨by decide, _, rfl⟩

/-- The six bytes from PC on, in the words of the statement. -/
def bytesAtPc (s : State) : List Byte :=
  [s.mem8 s.pc, s.mem8 (s.pc + 1), s.mem8 (s.pc + 2), s.mem8 (s.pc + 3), s.mem8 (s.pc + 4), s.mem8 (s.pc + 5)]

/-- An instruction at 0, one whose bytes go from 0xFFFE over the top to 0, and bytes that are none. -/
theorem witness_StepRunsTheDecodedInstruction :
    (∃ rest, decode (bytesAtPc programA) = .ok (.ldMmnA 0x4000, rest)) ∧
      (∃ rest, decode (bytesAtPc { programA with
        pc := 0xFFFE, mem := [(0, 0x40), (1, 0), (2, 0), (3, 0), (0xFFFE, 0x21), (0xFFFF, 0x00)] }) =
          .ok (.ldDDmn .hl 0x4000, rest)) ∧
      decode (bytesAtPc { programA with mem := [(0, 0xCB), (1, 0x30), (2, 0), (3, 0), (4, 0), (5, 0)] }) =
        .error (.undefinedCB 0x30) := ⟨⟨_, rfl⟩, ⟨_, rfl⟩, rfl⟩

/-- The lowest and the highest byte each page does not list, the dd' code 11, and each way out of the prefix sets. -/
theorem witness_UndefinedBytesAreRefused :
    ((0x00 : Byte) ∉ opcodesED ∧ (0x71 : Byte) ∉ opcodesED ∧ (0x79 : Byte) ∉ opcodesED ∧ (0xFF : Byte) ∉ opcodesED) ∧
    ((0x00 : Byte) ∉ opcodesIndex ∧ (0xFF : Byte) ∉ opcodesIndex) ∧
    ((0x05 : Byte).extractLsb' 0 3 ≠ 0b110 ∧ (0x07 : Byte).extractLsb' 0 3 ≠ 0b110 ∧
      (0x36 : Byte).extractLsb' 0 3 = 0b110) ∧
    Pfx.altd.hasAlt = true ∧ Pfx.ioiAltd.hasAlt = true ∧ Pfx.ioe.io ≠ none ∧ Pfx.altdIoi.io ≠ none := by decide

theorem witness_DecodeOfEncodeIsTheInstruction :
    WellFormed (.ldIXmn 0xFFFF) ∧ WellFormed (.altd (.ioi (.ldAMmn 0x0100))) ∧ WellFormed (.ioe .exDEHLa) := by decide

theorem witness_DecodedBytesAreTheEncoding :
    decode [0x76, 0xD3, 0x3A, 0x00, 0x01, 0x55] = .ok (.altd (.ioi (.ldAMmn 0x0100)), [0x55]) := rfl

theorem witness_EveryInstructionCompletes :
    (∃ t, exec (.rst .v38) base = .next t) ∧ ∃ t, step programA = .next t := ⟨⟨_, rfl⟩, _, rfl⟩

/-- One instruction for each cell that can be `-`: S, Z, V, C. -/
theorem witness_FlagsChangeOnlyAsTheTableSays :
    ((Instr.bitR 7 .b).isBase = true ∧ movesF (.bitR 7 .b) = false ∧ (flagCells (.bitR 7 .b)).s = .keep ∧
      (flagCells (.bitR 7 .b)).lv = .keep ∧ (flagCells (.bitR 7 .b)).c = .keep ∧
      ∃ t, exec (Pfx.altd.wrap (.bitR 7 .b)) base = .next t) ∧
    Instr.isBase .scf = true ∧ movesF .scf = false ∧ (flagCells .scf).z = .keep ∧
      ∃ t, exec (Pfx.none.wrap .scf) base = .next t :=
  ⟨⟨rfl, rfl, rfl, rfl, rfl, _, rfl⟩, rfl, rfl, rfl, _, rfl⟩

theorem witness_RegistersOutsideTheDestinationsKeepTheirValue :
    Instr.isBase (.ldRN .b 1) = true ∧ Reg.main .b ∉ destRegs true (.ldRN .b 1) ∧
      Reg.alt .b ∈ destRegs true (.ldRN .b 1) ∧ ∃ t, exec (Pfx.altd.wrap (.ldRN .b 1)) base = .next t :=
  ⟨rfl, by decide, by decide, _, rfl⟩

/-- A word stored across the top of the 16-bit addresses, and one that an I/O prefix keeps out of memory. -/
theorem witness_MemoryOutsideTheStoredBytesKeepsItsValue :
    Instr.isBase (.ldMmnHL 0xFFFF) = true ∧ (0x10000 : Phys) ∉ storedAt (.ldMmnHL 0xFFFF) Pfx.none.ctx base ∧
      (0x00000 : Phys) ∈ storedAt (.ldMmnHL 0xFFFF) Pfx.none.ctx base ∧
      (0x0FFFF : Phys) ∈ storedAt (.ldMmnHL 0xFFFF) Pfx.none.ctx base ∧
      (0x00000 : Phys) ∉ storedAt (.ldMmnHL 0xFFFF) Pfx.ioi.ctx base ∧
      ∃ t, exec (Pfx.none.wrap (.ldMmnHL 0xFFFF)) base = .next t :=
  ⟨rfl, by decide, by decide, by decide, by decide, _, rfl⟩

theorem witness_IoSpacesAreReachedOnlyThroughAPrefix :
    (Instr.isBase .nop = true ∧ ioCol .nop = .empty ∧ ∃ t, exec (Pfx.ioi.wrap .nop) base = .next t) ∧
    (Instr.isBase .ldAMbc = true ∧ ioCol .ldAMbc = .source ∧ Pfx.none.io = none ∧
      ∃ t, exec (Pfx.ioe.wrap .ldAMbc) base = .next t) ∧
    (Instr.isBase .ldMbcA = true ∧ ioCol .ldMbcA = .destination ∧ ioReadModifyWrite .ldMbcA = false ∧
      Pfx.ioi.io ≠ none ∧ ∃ t, exec (Pfx.ioi.wrap .ldMbcA) base = .next t) ∧
    Instr.isBase .rlMhl = true ∧ ioCol .rlMhl = .both ∧ ∃ t, exec (Pfx.ioe.wrap .rlMhl) base = .next t :=
  ⟨⟨rfl, rfl, _, rfl⟩, ⟨rfl, rfl, rfl, _, rfl⟩, ⟨rfl, rfl, rfl, by decide, _, rfl⟩, rfl, rfl, _, rfl⟩

theorem witness_PrivilegeHoldsOffOneBoundary :
    (Instr.isBase (.bitMhl 7) = true ∧ ∃ t, exec (Pfx.altd.wrap (.bitMhl 7)) base = .next t ∧ t.inhibit = true) ∧
    (Instr.isBase .nop = true ∧ ∃ t, exec (Pfx.none.wrap .nop) base = .next t ∧ t.inhibit = false) ∧
    ({ base with inhibit := true, irq := [some ⟨.p3, 0⟩] } : State).inhibit = true :=
  ⟨⟨rfl, _, rfl, rfl⟩, ⟨rfl, _, rfl, rfl⟩, rfl⟩

theorem witness_PcMovesPastTheInstruction :
    Instr.isBase (.ldIXmn 0) = true ∧ isControl (.ldIXmn 0) = false ∧
      ∃ t, exec (Pfx.altdIoe.wrap (.ldIXmn 0)) { base with pc := 0xFFFF } = .next t ∧ t.pc = 5 := ⟨rfl, rfl, _, rfl, rfl⟩

theorem witness_PrefixWithoutALetterHasNoEffect :
    (Instr.isBase .nop = true ∧ altdCol .nop = .empty ∧ isRepeating .nop = false ∧ Pfx.altd.hasAlt = true) ∧
      ioCol .nop = .empty ∧ Pfx.ioi.io ≠ none := ⟨⟨rfl, rfl, rfl, rfl⟩, rfl, by decide⟩

/-- The priority just above the current one and just not above it, for each clause. -/
theorem witness_BoundaryAcceptsHigherPriorityOnly :
    (let s : State := { base with ip := 2, irq := [some ⟨.p3, 0x2000⟩] };
      s.irq = some ⟨.p3, 0x2000⟩ :: [] ∧ s.inhibit = false ∧ s.currentPriority < Priority.p3.bits) ∧
    (let s : State := { base with ip := 2, irq := [some ⟨.p2, 0x2000⟩] };
      s.irq = some ⟨.p2, 0x2000⟩ :: [] ∧ ¬ s.currentPriority < Priority.p2.bits) ∧
    (let s : State := { base with inhibit := true, irq := [some ⟨.p3, 0x2000⟩] };
      s.irq = some ⟨.p3, 0x2000⟩ :: [] ∧ s.inhibit = true) ∧
    ({ base with ip := 0xFF } : State).currentPriority = 3 ∧ ({ base with irq := [none] } : State).irq = none :: [] ∧
    base.irq = [] := by decide

/-- The stack at the bottom and at the top of the 16-bit addresses. -/
theorem witness_stack_bytes_apart :
    (let s : State := { base with sp := 0 }; s.phys (s.sp - 1) ≠ s.phys (s.sp - 2)) ∧
    (let s : State := { base with sp := 1 }; s.phys (s.sp - 1) ≠ s.phys (s.sp - 2)) ∧
    (let s : State := { base with sp := 0xFFFF }; s.phys (s.sp - 1) ≠ s.phys (s.sp - 2)) := by decide

theorem witness_IpresAndRetReturnFromAnInterrupt :
    let s : State := { base with sp := 1 }; s.phys (s.sp - 1) ≠ s.phys (s.sp - 2) := by decide

theorem witness_PopUndoesPush :
    let s : State := { base with sp := 0 }; s.phys (s.sp - 1) ≠ s.phys (s.sp - 2) := by decide

theorem witness_ReturnUndoesCall :
    (let s : State := { base with sp := 1 }; s.phys (s.sp - 1) ≠ s.phys (s.sp - 2)) ∧ base.translation = .identity := by
  decide

theorem witness_RegisterPairsAreTheirHalves :
    base.phys 0xFFFF ≠ base.phys (0xFFFF + 1) ∧ base.phys (base.sp - 1) ≠ base.phys (base.sp - 2) := by decide

theorem witness_SixteenBitDataIsLittleEndian : base.phys 0xFFFF ≠ base.phys (0xFFFF + 1) := by decide

theorem witness_OperandWritesGoToMemoryOrToTheIoSpace :
    Ctx.bare.io = none ∧ (0x0FFFE : Phys) ≠ base.phys 0xFFFF ∧ Pfx.ioe.ctx.io = some .ext := by decide

theorem witness_LoadsFromAMemoryOperand : Pfx.altd.io = none ∧ Pfx.ioiAltd.io = some .int ∧ Pfx.ioe.io = some .ext := by
  decide

theorem witness_EirMovesToAndFromA :
    Instr.isBase .ldIIRA = true ∧ Instr.ldIIRA ≠ .ldEIRA ∧ ∃ t, exec .ldIIRA base = .next t := ⟨rfl, by decide, _, rfl⟩

theorem witness_Exchanges : Pfx.ioi.hasAlt = false ∧ Pfx.altd.hasAlt = true := by decide

theorem witness_BitSetAndReset : 7 < 8 ∧ 7 = (7 : BitVec 3).toNat ∧ 6 < 8 ∧ 6 ≠ (7 : BitVec 3).toNat := by decide

/-- The first step and the last one, the 65536 steps of BC = 0 among them. -/
theorem witness_RepeatingMoveRunsBcSteps :
    (1 ≤ 1 ∧ 1 ≤ moveCount (pairs 0 0 1 0).bc ∧ 1 = moveCount (pairs 0 0 1 0).bc) ∧
    (1 ≤ 65536 ∧ 65536 ≤ moveCount base.bc ∧ 65536 = moveCount base.bc) ∧
    1 ≤ moveCount base.bc ∧ 1 ≠ moveCount base.bc := by decide

theorem witness_RepeatingMoveWritesTheSourceToExternalIo :
    0 ≤ moveCount base.bc ∧ 3 ≤ moveCount (pairs 0 0 3 0).bc := by decide

/-- All flags 0 and all flags 1: the hypotheses of every clause on a condition. -/
theorem witness_ConditionalJumps_and_ReturnsPopTheAddress :
    (flagS (accum 0 0x00).main.f = false ∧ flagZ (accum 0 0x00).main.f = false ∧
      flagLV (accum 0 0x00).main.f = false ∧ flagC (accum 0 0x00).main.f = false) ∧
    flagS (accum 0 0xC5).main.f = true ∧ flagZ (accum 0 0xC5).main.f = true ∧
      flagLV (accum 0 0xC5).main.f = true ∧ flagC (accum 0 0xC5).main.f = true := by decide

/-- B = 1 ends the loop; B = 0 and B = 2 do not. -/
theorem witness_UnconditionalJumpsAndDjnz :
    ({ base with main := { Bank.reset with b := 1 } } : State).main.b = 1 ∧ base.main.b ≠ 1 ∧
      ({ base with main := { Bank.reset with b := 2 } } : State).main.b ≠ 1 := by decide

theorem witness_IpIsAStackOfPriorities :
    Instr.isBase .ipset1 = true ∧ ∃ t, exec .ipset1 base = .next t ∧ t.ip ≠ base.ip := ⟨rfl, _, rfl, by decide⟩

end Sys2Proof.Tests
end

section
/-!
PROOFS. Which flag register a row writes, and which flags of it (spec/00_scope.md R7, 10_state.md R15, R16). A row either
leaves F and F' (`KeepsF`) or writes, to one of them, flags that its cells admit (`WritesFlags`).
-/
namespace Sys2Proof.Machine

/-! ## Operations that leave both flag registers -/

/-- F and F' are the same in both states. -/
def KeepsF (s t : State) : Prop := t.main.f = s.main.f ∧ t.alt.f = s.alt.f

section
variable (s : State)

@[simp] theorem State.setR8_main_f (x : Bool) (r : R8) (v : Byte) : (s.setR8 x r v).main.f = s.main.f := by
  cases x <;> simp [State.setR8]
@[simp] theorem State.setR8_alt_f (x : Bool) (r : R8) (v : Byte) : (s.setR8 x r v).alt.f = s.alt.f := by
  cases x <;> simp [State.setR8]
@[simp] theorem State.setSS_main_f (x : Bool) (dd : SS) (v : Word) : (s.setSS x dd v).main.f = s.main.f := by
  cases x <;> cases dd <;> rfl
@[simp] theorem State.setSS_alt_f (x : Bool) (dd : SS) (v : Word) : (s.setSS x dd v).alt.f = s.alt.f := by
  cases x <;> cases dd <;> rfl
@[simp] theorem State.setDDa_alt_f (dd : DDa) (v : Word) : (s.setDDa dd v).alt.f = s.alt.f := by cases dd <;> rfl
@[simp] theorem State.loadR8_main_f (c : Ctx) (r : R8) (a : Word) : (s.loadR8 c r a).main.f = s.main.f := by
  simp [State.loadR8]
@[simp] theorem State.loadR8_alt_f (c : Ctx) (r : R8) (a : Word) : (s.loadR8 c r a).alt.f = s.alt.f := by
  simp [State.loadR8]
@[simp] theorem State.loadSS_main_f (c : Ctx) (dd : SS) (a : Word) : (s.loadSS c dd a).main.f = s.main.f := by
  simp [State.loadSS]
@[simp] theorem State.loadSS_alt_f (c : Ctx) (dd : SS) (a : Word) : (s.loadSS c dd a).alt.f = s.alt.f := by
  simp [State.loadSS]
@[simp] theorem State.exchangeGeneral_main_f : s.exchangeGeneral.main.f = s.main.f := rfl
@[simp] theorem State.exchangeGeneral_alt_f : s.exchangeGeneral.alt.f = s.alt.f := rfl
@[simp] theorem State.exchangeDEa_main_f (x : Bool) : (s.exchangeDEa x).main.f = s.main.f := by cases x <;> rfl
@[simp] theorem State.exchangeDEa_alt_f (x : Bool) : (s.exchangeDEa x).alt.f = s.alt.f := by cases x <;> rfl
@[simp] theorem State.exchangeDE_main_f (x : Bool) : (s.exchangeDE x).main.f = s.main.f := by cases x <;> rfl
@[simp] theorem State.exchangeDE_alt_f (x : Bool) : (s.exchangeDE x).alt.f = s.alt.f := by cases x <;> rfl

/-- `D(zz) <- v` writes a flag register for AF only (10_state.md R16). -/
theorem State.setZZ_keepsF (x : Bool) {zz : ZZ} (v : Word) (h : zz ≠ .af) : KeepsF s (s.setZZ x zz v) := by
  cases zz
  case af => exact absurd rfl h
  all_goals cases x <;> exact ⟨rfl, rfl⟩

end

/-! ## Flag updates and the cells of a row -/

/-- The update writes no flag whose cell is `-`. -/
def FlagUpd.Fits (u : FlagUpd) (k : FlagCells) : Prop :=
  (k.s = .keep → u.s = none) ∧ (k.z = .keep → u.z = none) ∧ (k.lv = .keep → u.lv = none) ∧ (k.c = .keep → u.c = none)

theorem noFlags_fits (k : FlagCells) : ({} : FlagUpd).Fits k := by simp [FlagUpd.Fits]
@[simp] theorem fits_allWritten (u : FlagUpd) : u.Fits ⟨.written, .written, .written, .written⟩ := by
  simp [FlagUpd.Fits]
@[simp] theorem flagsInc_fits (v : Byte) : (flagsInc v).Fits ⟨.written, .written, .written, .keep⟩ := by
  simp [FlagUpd.Fits, flagsInc]
@[simp] theorem flagsDec_fits (v : Byte) : (flagsDec v).Fits ⟨.written, .written, .written, .keep⟩ := by
  simp [FlagUpd.Fits, flagsDec]
@[simp] theorem flagsSZ_fits (v : Byte) : (flagsSZ v).Fits ⟨.written, .written, .keep, .keep⟩ := by
  simp [FlagUpd.Fits, flagsSZ]
@[simp] theorem flagsBit_fits (b : BitVec 3) (v : Byte) : (flagsBit b v).Fits ⟨.keep, .written, .keep, .keep⟩ := by
  simp [FlagUpd.Fits, flagsBit]
@[simp] theorem carryFlag_fits (b : Bool) : ({ c := some b } : FlagUpd).Fits ⟨.keep, .keep, .keep, .written⟩ := by
  simp [FlagUpd.Fits]
theorem overflowFlag_fits (b : Bool) : ({ lv := some b } : FlagUpd).Fits ⟨.keep, .keep, .written, .keep⟩ := by
  simp [FlagUpd.Fits]

/-- From `s` to `t`, flags that the cells `k` admit are written to F, or to F' when `b` holds, and the other flag register
is kept. -/
def WritesFlags (b : Bool) (k : FlagCells) (s t : State) : Prop :=
  (t.bank !b).f = (s.bank !b).f ∧ ∃ u : FlagUpd, u.Fits k ∧ (t.bank b).f = u.apply (s.bank b).f

section
variable {s x : State} {b : Bool} {k : FlagCells}

theorem KeepsF.bank_f (h : KeepsF s x) (b : Bool) : (x.bank b).f = (s.bank b).f := by
  cases b
  · exact h.1
  · exact h.2

theorem KeepsF.writesFlags (h : KeepsF s x) : WritesFlags b k s x :=
  ⟨h.bank_f _, {}, noFlags_fits k, h.bank_f b⟩

/-- Flags written with `setFlags`, after a change that leaves F and F'. -/
theorem KeepsF.writesFlags_setFlags {u : FlagUpd} (h : KeepsF s x) (hu : u.Fits k) :
    WritesFlags b k s (x.setFlags b u) := by
  refine ⟨?_, u, hu, ?_⟩
  · rw [State.setFlags, State.bank_updBank_other, h.bank_f]
  · rw [State.setFlags, State.bank_updBank_same, ← h.bank_f]
    rfl

/-- What holds of a state holds of one with the same flag registers. -/
theorem WritesFlags.of_keepsF {t : State} (h : WritesFlags b k s x) (ht : KeepsF x t) : WritesFlags b k s t := by
  obtain ⟨hother, u, hu, hf⟩ := h
  exact ⟨(ht.bank_f _).trans hother, u, hu, (ht.bank_f b).trans hf⟩

theorem WritesFlags.advance {c : Ctx} {n : Nat} (h : WritesFlags b k s x) : WritesFlags b k s (x.advance c n) :=
  h.of_keepsF ⟨rfl, rfl⟩

theorem WritesFlags.advancePriv {c : Ctx} {n : Nat} (h : WritesFlags b k s x) :
    WritesFlags b k s (x.advancePriv c n) :=
  h.of_keepsF ⟨rfl, rfl⟩

theorem WritesFlags.repeatOrAdvance {c : Ctx} {n : Nat} (h : WritesFlags b k s x) :
    WritesFlags b k s (x.repeatOrAdvance c n) :=
  h.of_keepsF ⟨by simp, by simp⟩

/-- The frame of `WritesFlags` in the words of the statement: a flag whose cell is `-`, and a bit without a flag, keep
their value. -/
theorem WritesFlags.kept {t : State} (h : WritesFlags b k s t) :
    (t.bank (!b)).f = (s.bank (!b)).f ∧
    (k.s = .keep → flagS (t.bank b).f = flagS (s.bank b).f) ∧
    (k.z = .keep → flagZ (t.bank b).f = flagZ (s.bank b).f) ∧
    (k.lv = .keep → flagLV (t.bank b).f = flagLV (s.bank b).f) ∧
    (k.c = .keep → flagC (t.bank b).f = flagC (s.bank b).f) ∧
    (t.bank b).f.getLsbD 1 = (s.bank b).f.getLsbD 1 ∧ (t.bank b).f.getLsbD 3 = (s.bank b).f.getLsbD 3 ∧
    (t.bank b).f.getLsbD 4 = (s.bank b).f.getLsbD 4 ∧ (t.bank b).f.getLsbD 5 = (s.bank b).f.getLsbD 5 := by
  obtain ⟨hother, u, ⟨hs, hz, hlv, hc⟩, hf⟩ := h
  obtain ⟨fs, fz, flv, fc, unused⟩ := flagsAre_apply u (s.bank b).f
  rw [hf, fs, fz, flv, fc]
  exact ⟨hother, fun h => by rw [hs h]; rfl, fun h => by rw [hz h]; rfl, fun h => by rw [hlv h]; rfl,
    fun h => by rw [hc h]; rfl, unused⟩

end

/-! ## The shared operations that write flags -/

section
variable {s x : State} (c : Ctx)

theorem KeepsF.writesFlags_alu (op : AluOp) (v : Byte) (h : KeepsF s x) :
    WritesFlags c.alt ⟨.written, .written, .written, .written⟩ s (x.alu c op v) := by
  unfold State.alu
  refine KeepsF.writesFlags_setFlags ?_ (fits_allWritten _)
  split
  · exact ⟨by simpa using h.1, by simpa using h.2⟩
  · exact h

end

namespace State
variable (s : State) (c : Ctx)

theorem alu_writesFlags (op : AluOp) (v : Byte) :
    WritesFlags c.alt ⟨.written, .written, .written, .written⟩ s (s.alu c op v) :=
  KeepsF.writesFlags_alu c op v ⟨rfl, rfl⟩

theorem aluMem_writesFlags (op : AluOp) (a : Word) :
    WritesFlags c.alt ⟨.written, .written, .written, .written⟩ s (s.aluMem c op a) :=
  KeepsF.writesFlags_alu c op _ ⟨by simp, by simp⟩

theorem bitMem_writesFlags (b : BitVec 3) (a : Word) :
    WritesFlags c.alt ⟨.keep, .written, .keep, .keep⟩ s (s.bitMem c b a) :=
  KeepsF.writesFlags_setFlags ⟨by simp, by simp⟩ (flagsBit_fits _ _)

theorem incMem_writesFlags (a : Word) :
    WritesFlags c.alt ⟨.written, .written, .written, .keep⟩ s (s.incMem c a) :=
  KeepsF.writesFlags_setFlags ⟨by simp, by simp⟩ (flagsInc_fits _)

theorem decMem_writesFlags (a : Word) :
    WritesFlags c.alt ⟨.written, .written, .written, .keep⟩ s (s.decMem c a) :=
  KeepsF.writesFlags_setFlags ⟨by simp, by simp⟩ (flagsDec_fits _)

theorem shiftMem_writesFlags (op : ShiftOp) (a : Word) :
    WritesFlags c.alt ⟨.written, .written, .written, .written⟩ s (s.shiftMem c op a) :=
  KeepsF.writesFlags_setFlags ⟨by simp, by simp⟩ (fits_allWritten _)

/-- A step of a block move writes L/V of F, under ALTD too (47_prefix_block.md R314). -/
theorem moveStep_writesFlags (dir : Dir) :
    WritesFlags false ⟨.keep, .keep, .written, .keep⟩ s (s.moveStep c dir) :=
  KeepsF.writesFlags_setFlags ⟨by simp, by simp⟩ (overflowFlag_fits _)

end State

/-! ## The rows -/

/-- A row with no written cell leaves F and F', but for the two rows that move F whole. -/
theorem runIn_keepsF {i : Instr} (c : Ctx) (s : State) (hb : i.isBase = true) (hm : movesF i = false)
    (h : flagCells i = ⟨.keep, .keep, .keep, .keep⟩) : KeepsF s (runIn i c s) := by
  cases i
  case popZZ zz =>
    exact State.setZZ_keepsF s c.alt _ (by rintro rfl; exact Bool.noConfusion hm)
  case exAF => exact Bool.noConfusion hm
  case altd | ioi | ioe => exact Bool.noConfusion hb
  all_goals simp [flagCells, KeepsF] at h ⊢

/-- A row with `f` or `fr` in the A column writes its flags to the register that ALTD selects. -/
theorem runIn_writesFlags_of_altdCol {i : Instr} (c : Ctx) (s : State) (h : altdCol i = .f ∨ altdCol i = .fr) :
    WritesFlags c.alt (flagCells i) s (runIn i c s) := by
  cases i
  case bitMhl b => exact (s.bitMem_writesFlags c b _).advancePriv
  case bitMix b d | bitMiy b d => exact (s.bitMem_writesFlags c b _).advance
  case incMhl | incMix | incMiy => exact (s.incMem_writesFlags c _).advance
  case decMhl | decMix | decMiy => exact (s.decMem_writesFlags c _).advance
  case rlMhl | rlMix | rlMiy | rlcMhl | rlcMix | rlcMiy | rrMhl | rrMix | rrMiy | rrcMhl | rrcMix | rrcMiy | slaMhl
    | slaMix | slaMiy | sraMhl | sraMix | sraMiy | srlMhl | srlMix | srlMiy =>
    exact (s.shiftMem_writesFlags c _ _).advance
  case adcMhl | adcMix | adcMiy | addMhl | addMix | addMiy | andMhl | andMix | andMiy | cpMhl | cpMix | cpMiy | orMhl
    | orMix | orMiy | sbcMhl | sbcMix | sbcMiy | subMhl | subMix | subMiy | xorMhl | xorMix | xorMiy =>
    exact (s.aluMem_writesFlags c _ _).advance
  case adcN | adcR | addN | addR | andN | andR | cpN | cpR | orN | orR | sbcN | sbcR | subN | subR | xorN | xorR =>
    exact (s.alu_writesFlags c _ _).advance
  case ldAEIR | ldAIIR | addSPd | adcHLss | addHLss | addIXxx | addIYyy | andHLDE | andIXDE | andIYDE | boolHL | boolIX
    | boolIY | orHLDE | orIXDE | orIYDE | rlDE | rrDE | rrHL | rrIX | rrIY | sbcHLss | bitR | decR | incR | neg | rla
    | rlca | rra | rrca | rlR | rlcR | rrR | rrcR | slaR | sraR | srlR | ccf | scf =>
    exact (KeepsF.writesFlags_setFlags ⟨by simp, by simp⟩ (by simp [flagCells])).advance
  all_goals simp [altdCol] at h

/-- A block move writes its flag to F whatever the prefixes are. -/
theorem runIn_writesFlags_of_isBlockMove {i : Instr} (c : Ctx) (s : State) (h : isBlockMove i = true) :
    WritesFlags false (flagCells i) s (runIn i c s) := by
  cases i
  case ldi | ldd => exact (s.moveStep_writesFlags c _).advance
  case ldir | lddr => exact (s.moveStep_writesFlags c _).repeatOrAdvance
  all_goals exact Bool.noConfusion h

/-- A row writes no flag, or has a letter for its flags in the A column, or is a block move. -/
theorem flagCells_cases (i : Instr) :
    flagCells i = ⟨.keep, .keep, .keep, .keep⟩ ∨ (altdCol i = .f ∨ altdCol i = .fr) ∨
      isBlockMove i = true ∧ altdCol i = .empty := by
  cases i <;> simp [flagCells, altdCol, isBlockMove]

/-- Settles O10: a row leaves F and F', or writes them through `setFlags`, in the register that ALTD selects when the A
column has `f` or `fr`, and in F for a block move. -/
theorem flagsChangeOnlyAsTheTableSays : Obligations.FlagsChangeOnlyAsTheTableSays := by
  intro p i s t hb hm ht
  rw [exec_wrap] at ht
  injection ht with ht
  subst ht
  refine WritesFlags.kept ?_
  rcases flagCells_cases i with hk | ha | ⟨hbm, ha⟩
  · exact (runIn_keepsF p.ctx s hb hm hk).writesFlags
  · have halt : (p.hasAlt && (decide (altdCol i = .f) || decide (altdCol i = .fr))) = p.hasAlt := by
      simpa using fun _ => ha
    rw [halt]
    exact runIn_writesFlags_of_altdCol p.ctx s ha
  · simpa [ha] using runIn_writesFlags_of_isBlockMove p.ctx s hbm

end Sys2Proof.Machine
end

section
/-!
PROOFS. When a row reaches an I/O space (spec/00_scope.md R7, 20_memory.md R48, 30_encoding.md R66). A row with an empty I
column accesses none (`NoIoAccess`); a row with a letter has its operand in the space IOI or IOE selects (`AccessesVia`).
-/
namespace Sys2Proof.Machine

/-! ## The operand that IOI and IOE move -/

/-- From `s` to `t` nothing is read from or written to an I/O space. -/
def NoIoAccess (s t : State) : Prop := t.ioWrites = s.ioWrites ∧ t.ioReads = s.ioReads

/-- From `s` to `t` the operand is accessed in the space `io`: without one no I/O byte is read, what is written to an I/O
space is written there, and with one memory keeps its value. -/
structure AccessesVia (io : Option IoSpace) (s t : State) : Prop where
  /-- Without IOI and IOE no I/O byte is read. -/
  reads : io = none → t.ioReads = s.ioReads
  /-- What is written goes after the earlier events and to the selected space. -/
  writes : ∃ ws, t.ioWrites = s.ioWrites ++ ws ∧ ∀ w ∈ ws, io = some w.space
  /-- With IOI or IOE memory keeps its value. -/
  mem : io ≠ none → t.mem = s.mem

section
variable {io : Option IoSpace} {s t u : State}

/-- A change of other fields accesses nothing. -/
theorem AccessesVia.of_eq (hr : t.ioReads = s.ioReads) (hw : t.ioWrites = s.ioWrites) (hm : t.mem = s.mem) :
    AccessesVia io s t :=
  ⟨fun _ => hr, ⟨[], by simp [hw]⟩, fun _ => hm⟩

theorem AccessesVia.trans (h : AccessesVia io s t) (h' : AccessesVia io t u) : AccessesVia io s u := by
  obtain ⟨ws, hws, hspace⟩ := h.writes
  obtain ⟨ws', hws', hspace'⟩ := h'.writes
  refine ⟨fun hio => (h'.reads hio).trans (h.reads hio), ⟨ws ++ ws', ?_, ?_⟩,
    fun hio => (h'.mem hio).trans (h.mem hio)⟩
  · rw [hws', hws, List.append_assoc]
  · intro w hw
    exact (List.mem_append.mp hw).elim (hspace w) (hspace' w)

/-- Without IOI and IOE there is no event. -/
theorem AccessesVia.noIoAccess (h : AccessesVia none s t) : NoIoAccess s t := by
  obtain ⟨ws, hws, hspace⟩ := h.writes
  have hnil : ws = [] := List.eq_nil_iff_forall_not_mem.mpr fun w hw => nomatch hspace w hw
  exact ⟨by rw [hws, hnil, List.append_nil], h.reads rfl⟩

theorem AccessesVia.advance {c : Ctx} {n : Nat} (h : AccessesVia io s t) : AccessesVia io s (t.advance c n) :=
  h.trans (.of_eq rfl rfl rfl)

theorem AccessesVia.advancePriv {c : Ctx} {n : Nat} (h : AccessesVia io s t) :
    AccessesVia io s (t.advancePriv c n) :=
  h.trans (.of_eq rfl rfl rfl)

theorem AccessesVia.repeatOrAdvance {c : Ctx} {n : Nat} (h : AccessesVia io s t) :
    AccessesVia io s (t.repeatOrAdvance c n) :=
  h.trans (.of_eq (by simp) (by simp) (by simp))

end

/-! ## The shared operations on such an operand -/

namespace State
variable (s : State) (c : Ctx)

theorem afterRead_accesses (n : Nat) : AccessesVia c.io s (s.afterRead c n) :=
  ⟨fun h => by simp [h], ⟨[], by simp⟩, fun _ => by simp⟩

theorem wrD8_accesses (a : Word) (v : Byte) : AccessesVia c.io s (s.wrD8 c a v) := by
  rcases s.wrD8_cases c a v with ⟨hio, e⟩ | ⟨sp, hio, e⟩ <;> rw [e]
  · exact ⟨fun _ => rfl, ⟨[], by simp⟩, fun h => absurd hio h⟩
  · exact ⟨fun _ => rfl, ⟨[_], rfl, by simp [hio]⟩, fun _ => rfl⟩

theorem wrD16_accesses (a v : Word) : AccessesVia c.io s (s.wrD16 c a v) :=
  (wrD8_accesses s c a _).trans (wrD8_accesses _ c _ _)

theorem loadR8_accesses (r : R8) (a : Word) : AccessesVia c.io s (s.loadR8 c r a) :=
  (afterRead_accesses s c 1).trans (.of_eq rfl rfl rfl)

theorem loadSS_accesses (dd : SS) (a : Word) : AccessesVia c.io s (s.loadSS c dd a) :=
  (afterRead_accesses s c 2).trans (.of_eq (by simp [loadSS]) (by simp) (by simp))

theorem loadIX_accesses (a : Word) : AccessesVia c.io s (s.loadIX c a) :=
  (afterRead_accesses s c 2).trans (.of_eq rfl rfl rfl)

theorem loadIY_accesses (a : Word) : AccessesVia c.io s (s.loadIY c a) :=
  (afterRead_accesses s c 2).trans (.of_eq rfl rfl rfl)

theorem aluMem_accesses (op : AluOp) (a : Word) : AccessesVia c.io s (s.aluMem c op a) :=
  (afterRead_accesses s c 1).trans (.of_eq (by simp [aluMem]) (by simp) (by simp))

theorem bitMem_accesses (b : BitVec 3) (a : Word) : AccessesVia c.io s (s.bitMem c b a) :=
  (afterRead_accesses s c 1).trans (.of_eq rfl rfl rfl)

theorem rmw_accesses (a : Word) (g : Byte → Byte) : AccessesVia c.io s (s.rmw c a g) :=
  (afterRead_accesses s c 1).trans (wrD8_accesses _ c a _)

theorem incMem_accesses (a : Word) : AccessesVia c.io s (s.incMem c a) :=
  (rmw_accesses s c a _).trans (.of_eq rfl rfl rfl)

theorem decMem_accesses (a : Word) : AccessesVia c.io s (s.decMem c a) :=
  (rmw_accesses s c a _).trans (.of_eq rfl rfl rfl)

theorem shiftMem_accesses (op : ShiftOp) (a : Word) : AccessesVia c.io s (s.shiftMem c op a) :=
  (rmw_accesses s c a _).trans (.of_eq rfl rfl rfl)

theorem moveStep_accesses (dir : Dir) : AccessesVia c.io s (s.moveStep c dir) :=
  (wrD8_accesses s c s.de _).trans (.of_eq rfl rfl rfl)

end State

/-! ## The rows -/

/-- A row with an empty I column reaches no I/O space, behind IOI and IOE too (20_memory.md R48). -/
theorem runIn_noIoAccess {i : Instr} (c : Ctx) (s : State) (hb : i.isBase = true) (h : ioCol i = .empty) :
    NoIoAccess s (runIn i c s) := by
  cases i
  case altd | ioi | ioe => exact Bool.noConfusion hb
  all_goals simp [ioCol, NoIoAccess] at h ⊢

/-- A row with a letter in the I column accesses its operand in the space that IOI or IOE selects. -/
theorem runIn_accesses {i : Instr} (c : Ctx) (s : State) (h : ioCol i ≠ .empty) :
    AccessesVia c.io s (runIn i c s) := by
  cases i
  case ldAMmn | ldAMbc | ldAMde | ldRMhl | ldRMix | ldRMiy => exact (s.loadR8_accesses c _ _).advance
  case ldHLMmn | ldDDMmn | ldHLMhld | ldHLMix | ldHLMiy => exact (s.loadSS_accesses c _ _).advance
  case ldIXMmn => exact (s.loadIX_accesses c _).advance
  case ldIYMmn => exact (s.loadIY_accesses c _).advance
  case ldMmnA | ldMbcA | ldMdeA | ldMhlN | ldMhlR | ldMixN | ldMixR | ldMiyN | ldMiyR =>
    exact (s.wrD8_accesses c _ _).advance
  case ldMmnHL | ldMmnIX | ldMmnIY | ldMmnSS | ldMhldHL | ldMixHL | ldMiyHL => exact (s.wrD16_accesses c _ _).advance
  case adcMhl | adcMix | adcMiy | addMhl | addMix | addMiy | andMhl | andMix | andMiy | cpMhl | cpMix | cpMiy | orMhl
    | orMix | orMiy | sbcMhl | sbcMix | sbcMiy | subMhl | subMix | subMiy | xorMhl | xorMix | xorMiy =>
    exact (s.aluMem_accesses c _ _).advance
  case bitMhl => exact (s.bitMem_accesses c _ _).advancePriv
  case bitMix | bitMiy => exact (s.bitMem_accesses c _ _).advance
  case resMhl | resMix | resMiy | setMhl | setMix | setMiy => exact (s.rmw_accesses c _ _).advance
  case incMhl | incMix | incMiy => exact (s.incMem_accesses c _).advance
  case decMhl | decMix | decMiy => exact (s.decMem_accesses c _).advance
  case rlMhl | rlMix | rlMiy | rlcMhl | rlcMix | rlcMiy | rrMhl | rrMix | rrMiy | rrcMhl | rrcMix | rrcMiy | slaMhl
    | slaMix | slaMiy | sraMhl | sraMix | sraMiy | srlMhl | srlMix | srlMiy =>
    exact (s.shiftMem_accesses c _ _).advance
  case ldi | ldd => exact (s.moveStep_accesses c _).advance
  case ldir | lddr => exact (s.moveStep_accesses c _).repeatOrAdvance
  all_goals exact absurd rfl h

/-- A row whose letter is `s` writes to no I/O space. -/
theorem runIn_ioWrites_of_source {i : Instr} (c : Ctx) (s : State) (h : ioCol i = .source) :
    (runIn i c s).ioWrites = s.ioWrites := by
  cases i
  all_goals simp [ioCol] at h ⊢

/-- A row whose letter is `d`, but for a read-modify-write, reads no I/O byte. -/
theorem runIn_ioReads_of_destination {i : Instr} (c : Ctx) (s : State) (h : ioCol i = .destination)
    (hrmw : ioReadModifyWrite i = false) : (runIn i c s).ioReads = s.ioReads := by
  cases i
  case resMhl | resMix | resMiy => exact Bool.noConfusion hrmw
  all_goals simp [ioCol] at h ⊢

/-- Settles O13: a row with an empty I column accesses no I/O space, any other
its operand in the space that IOI or IOE selects. -/
theorem ioSpacesAreReachedOnlyThroughAPrefix : Obligations.IoSpacesAreReachedOnlyThroughAPrefix := by
  intro p i s t hb ht
  rw [exec_wrap] at ht
  injection ht with ht
  subst ht
  refine ⟨?_, ?_, runIn_ioWrites_of_source p.ctx s, ?_, runIn_ioReads_of_destination p.ctx s⟩
  · intro h
    by_cases hcol : ioCol i = .empty
    · exact runIn_noIoAccess p.ctx s hb hcol
    · have hvia := runIn_accesses p.ctx s hcol
      rw [Pfx.ctx_io, h.resolve_right hcol] at hvia
      exact hvia.noIoAccess
  · by_cases hcol : ioCol i = .empty
    · obtain ⟨hw, -⟩ := runIn_noIoAccess p.ctx s hb hcol
      exact ⟨[], by simp [hw]⟩
    · exact (runIn_accesses p.ctx s hcol).writes
  · intro hio hcol
    have hne : ioCol i ≠ .empty := by rcases hcol with e | e <;> simp [e]
    exact (runIn_accesses p.ctx s hne).mem hio

end Sys2Proof.Machine
end

section
/-!
PROOFS. The frame of the registers (spec/10_state.md R10, R13, R14): what a register reads after each shared operation, and
from that what it reads after a row that does not name it as a destination.
-/
namespace Sys2Proof.Machine

/-! ## The two register sets -/

theorem Bank.get_set_of_ne (k : Bank) {r x : R8} (v : Byte) (h : x ≠ r) : (k.set r v).get x = k.get x := by
  cases r <;> cases x <;> simp_all [Bank.get, Bank.set]

section
variable (s : State) {r : Reg}

/-- A change of one set keeps a register when it keeps every half of that set that the register can be. -/
theorem State.reg_updBank {a : Bool} {g : Bank → Bank} (h : ∀ x, r = Reg.dest a x → ∀ k, (g k).get x = k.get x) :
    (s.updBank a g).reg r = s.reg r := by
  cases r
  case main x =>
    cases a
    · exact congrArg zext (h x rfl s.main)
    · rfl
  case alt x =>
    cases a
    · rfl
    · exact congrArg zext (h x rfl s.alt)
  all_goals rfl

@[simp] theorem State.reg_setR8 {a : Bool} {x : R8} {v : Byte} (h : r ≠ Reg.dest a x) :
    (s.setR8 a x v).reg r = s.reg r :=
  s.reg_updBank fun y hy k => k.get_set_of_ne v (by rintro rfl; exact h hy)

@[simp] theorem State.reg_setFlags (a : Bool) (u : FlagUpd) : (s.setFlags a u).reg r = s.reg r :=
  s.reg_updBank fun x _ _ => by cases x <;> rfl

/-! ## The operations that write one register -/

@[simp] theorem State.reg_setIX {v : Word} (h : r ≠ .ix) : (s.setIX v).reg r = s.reg r := by
  cases r
  case ix => exact absurd rfl h
  all_goals rfl
@[simp] theorem State.reg_setIY {v : Word} (h : r ≠ .iy) : (s.setIY v).reg r = s.reg r := by
  cases r
  case iy => exact absurd rfl h
  all_goals rfl
@[simp] theorem State.reg_setSP {v : Word} (h : r ≠ .sp) : (s.setSP v).reg r = s.reg r := by
  cases r
  case sp => exact absurd rfl h
  all_goals rfl
@[simp] theorem State.reg_setXPC {v : Byte} (h : r ≠ .xpc) : (s.setXPC v).reg r = s.reg r := by
  cases r
  case xpc => exact absurd rfl h
  all_goals rfl
@[simp] theorem State.reg_setIP {v : Byte} (h : r ≠ .ip) : (s.setIP v).reg r = s.reg r := by
  cases r
  case ip => exact absurd rfl h
  all_goals rfl
@[simp] theorem State.reg_setIIR {v : Byte} (h : r ≠ .iir) : (s.setIIR v).reg r = s.reg r := by
  cases r
  case iir => exact absurd rfl h
  all_goals rfl
@[simp] theorem State.reg_setEIR {v : Byte} (h : r ≠ .eir) : (s.setEIR v).reg r = s.reg r := by
  cases r
  case eir => exact absurd rfl h
  all_goals rfl

/-! ## The operations that write a pair -/

/-- A pair is written as its two halves (10_state.md R12). -/
theorem State.setSS_bc (a : Bool) (v : Word) :
    s.setSS a .bc v = (s.setR8 a .b (hiByte v)).setR8 a .c (loByte v) := by cases a <;> rfl
theorem State.setSS_de (a : Bool) (v : Word) :
    s.setSS a .de v = (s.setR8 a .d (hiByte v)).setR8 a .e (loByte v) := by cases a <;> rfl
theorem State.setSS_hl (a : Bool) (v : Word) :
    s.setSS a .hl v = (s.setR8 a .h (hiByte v)).setR8 a .l (loByte v) := by cases a <;> rfl

@[simp] theorem State.reg_setSS {a : Bool} {dd : SS} {v : Word} (h : r ∉ Reg.destSS a dd) :
    (s.setSS a dd v).reg r = s.reg r := by
  cases dd
  case bc => rw [setSS_bc, reg_setR8 _ (by simp_all [Reg.destSS]), reg_setR8 _ (by simp_all [Reg.destSS])]
  case de => rw [setSS_de, reg_setR8 _ (by simp_all [Reg.destSS]), reg_setR8 _ (by simp_all [Reg.destSS])]
  case hl => rw [setSS_hl, reg_setR8 _ (by simp_all [Reg.destSS]), reg_setR8 _ (by simp_all [Reg.destSS])]
  case sp => exact s.reg_setSP (List.ne_of_not_mem_cons h)

/-- AF goes to A and to the flag register, which is not among these registers. -/
theorem State.reg_setZZ_af {a : Bool} {v : Word} (h : r ≠ Reg.dest a .a) : (s.setZZ a .af v).reg r = s.reg r := by
  have heq : s.setZZ a .af v = (s.setR8 a .a (hiByte v)).updBank a fun k => { k with f := loByte v } := by
    cases a <;> rfl
  rw [heq, reg_updBank _ fun x _ _ => by cases x <;> rfl, s.reg_setR8 h]

@[simp] theorem State.reg_setZZ {a : Bool} {zz : ZZ} {v : Word} (h : r ∉ Reg.destZZ a zz) :
    (s.setZZ a zz v).reg r = s.reg r := by
  cases zz
  case bc => exact s.reg_setSS (dd := .bc) h
  case de => exact s.reg_setSS (dd := .de) h
  case hl => exact s.reg_setSS (dd := .hl) h
  case af => exact s.reg_setZZ_af (List.ne_of_not_mem_cons h)

@[simp] theorem State.reg_setDDa {dd : DDa} {v : Word} (h : r ∉ Reg.destDDa dd) :
    (s.setDDa dd v).reg r = s.reg r := by
  cases dd
  case bc => exact s.reg_setSS (a := true) (dd := .bc) h
  case de => exact s.reg_setSS (a := true) (dd := .de) h
  case hl => exact s.reg_setSS (a := true) (dd := .hl) h

/-! ## The operations that write none of these registers -/

@[simp] theorem State.reg_afterRead (c : Ctx) (n : Nat) : (s.afterRead c n).reg r = s.reg r := by
  cases r <;> simp [State.reg]
@[simp] theorem State.reg_wrD8 (c : Ctx) (a : Word) (v : Byte) : (s.wrD8 c a v).reg r = s.reg r := by
  cases r <;> simp [State.reg]
@[simp] theorem State.reg_wrD16 (c : Ctx) (a v : Word) : (s.wrD16 c a v).reg r = s.reg r := by
  simp [State.wrD16]
@[simp] theorem State.reg_rmw (c : Ctx) (a : Word) (g : Byte → Byte) : (s.rmw c a g).reg r = s.reg r := by
  simp [State.rmw]
@[simp] theorem State.reg_wrMem8 (a : Word) (v : Byte) : (s.wrMem8 a v).reg r = s.reg r := by cases r <;> rfl
@[simp] theorem State.reg_wrMem16 (a v : Word) : (s.wrMem16 a v).reg r = s.reg r := by simp [State.wrMem16]
@[simp] theorem State.reg_ldpWrite (x v : Word) : (s.ldpWrite x v).reg r = s.reg r := by cases r <;> rfl
@[simp] theorem State.reg_afterPush (zz : ZZ) : (s.afterPush zz).reg r = s.reg r := by cases r <;> simp [State.reg]
@[simp] theorem State.reg_bitMem (c : Ctx) (b : BitVec 3) (a : Word) : (s.bitMem c b a).reg r = s.reg r := by
  simp [State.bitMem]
@[simp] theorem State.reg_incMem (c : Ctx) (a : Word) : (s.incMem c a).reg r = s.reg r := by simp [State.incMem]
@[simp] theorem State.reg_decMem (c : Ctx) (a : Word) : (s.decMem c a).reg r = s.reg r := by simp [State.decMem]
@[simp] theorem State.reg_shiftMem (c : Ctx) (op : ShiftOp) (a : Word) : (s.shiftMem c op a).reg r = s.reg r := by
  simp [State.shiftMem]

@[simp] theorem State.reg_advance (c : Ctx) (n : Nat) : (s.advance c n).reg r = s.reg r := by cases r <;> rfl
@[simp] theorem State.reg_advancePriv (c : Ctx) (n : Nat) : (s.advancePriv c n).reg r = s.reg r := by
  cases r <;> rfl
@[simp] theorem State.reg_jump (t : Word) : (s.jump t).reg r = s.reg r := by cases r <;> rfl
@[simp] theorem State.reg_jumpPriv (t : Word) : (s.jumpPriv t).reg r = s.reg r := by cases r <;> rfl
@[simp] theorem State.reg_branch (c : Ctx) (n : Nat) (b : Bool) (t : Word) :
    (s.branch c n b t).reg r = s.reg r := by cases b <;> simp [State.branch]
@[simp] theorem State.reg_repeatOrAdvance (c : Ctx) (n : Nat) : (s.repeatOrAdvance c n).reg r = s.reg r := by
  cases r <;> simp [State.reg]

/-! ## The shared operations built from these -/

@[simp] theorem State.reg_push8 {v : Byte} (h : r ≠ .sp) : (s.push8 v).reg r = s.reg r := by
  simp [State.push8, h]
@[simp] theorem State.reg_push16 {v : Word} (h : r ≠ .sp) : (s.push16 v).reg r = s.reg r := by
  simp [State.push16, h]
@[simp] theorem State.reg_ret (h : r ≠ .sp) : s.ret.reg r = s.reg r := by simp [State.ret, h]
@[simp] theorem State.reg_retIf {c : Ctx} {n : Nat} {b : Bool} (h : r ≠ .sp) : (s.retIf c n b).reg r = s.reg r := by
  cases b <;> simp [State.retIf, h]
@[simp] theorem State.reg_loadR8 {c : Ctx} {x : R8} {a : Word} (h : r ≠ Reg.dest c.alt x) :
    (s.loadR8 c x a).reg r = s.reg r := by simp [State.loadR8, h]
@[simp] theorem State.reg_loadSS {c : Ctx} {dd : SS} {a : Word} (h : r ∉ Reg.destSS c.alt dd) :
    (s.loadSS c dd a).reg r = s.reg r := by simp [State.loadSS, h]
@[simp] theorem State.reg_loadIX {c : Ctx} {a : Word} (h : r ≠ .ix) : (s.loadIX c a).reg r = s.reg r := by
  simp [State.loadIX, h]
@[simp] theorem State.reg_loadIY {c : Ctx} {a : Word} (h : r ≠ .iy) : (s.loadIY c a).reg r = s.reg r := by
  simp [State.loadIY, h]

/-- `CP` has no destination; the others have A (44_arith8.md R212). -/
theorem State.reg_alu {c : Ctx} {op : AluOp} {v : Byte} (h : op.writesA = true → r ≠ Reg.dest c.alt .a) :
    (s.alu c op v).reg r = s.reg r := by
  unfold State.alu
  rw [State.reg_setFlags]
  split
  · next hop => exact s.reg_setR8 (h hop)
  · rfl
theorem State.reg_aluMem {c : Ctx} {op : AluOp} {a : Word} (h : op.writesA = true → r ≠ Reg.dest c.alt .a) :
    (s.aluMem c op a).reg r = s.reg r :=
  ((s.afterRead c 1).reg_alu h).trans (s.reg_afterRead c 1)

/-- A step of a block move counts and moves in the main set, under ALTD too (47_prefix_block.md R314). -/
theorem State.reg_moveStep {c : Ctx} {dir : Dir} (h : r ∉ destRegs c.alt .ldi) :
    (s.moveStep c dir).reg r = s.reg r := by
  simp only [destRegs, List.mem_cons, List.not_mem_nil, or_false, not_or] at h
  simp [State.moveStep, Reg.destSS, Reg.dest, h]

theorem State.reg_exchangeDEa {a : Bool} (h : r ∉ destRegs a .exDEaHL) : (s.exchangeDEa a).reg r = s.reg r := by
  cases a <;>
    simp only [destRegs, reduceIte, Bool.false_eq_true, List.mem_cons, List.not_mem_nil, or_false, not_or] at h <;>
    simp [State.exchangeDEa, Reg.destSS, Reg.dest, h]

theorem State.reg_exchangeDE {a : Bool} (h : r ∉ destRegs a .exDEHL) : (s.exchangeDE a).reg r = s.reg r := by
  cases a <;>
    simp only [destRegs, reduceIte, Bool.false_eq_true, List.mem_cons, List.not_mem_nil, or_false, not_or] at h <;>
    simp [State.exchangeDE, Reg.destSS, Reg.dest, h]

/-- `EXX` as six writes of a pair. -/
theorem State.exchangeGeneral_eq_setSS :
    s.exchangeGeneral =
      (((((s.setSS false .bc s.alt.bc).setSS false .de s.alt.de).setSS false .hl s.alt.hl).setSS true .bc
        s.main.bc).setSS true .de s.main.de).setSS true .hl s.main.hl := rfl

theorem State.reg_exchangeGeneral {a : Bool} (h : r ∉ destRegs a .exx) : s.exchangeGeneral.reg r = s.reg r := by
  simp only [destRegs, List.mem_cons, List.not_mem_nil, or_false, not_or] at h
  simp [State.exchangeGeneral_eq_setSS, Reg.destSS, Reg.dest, h]

end

/-! ## The rows -/

/-- A row changes no register but its destinations: it is a chain of the operations above, each of which keeps what is
none of its own destinations, and those are among the row's. -/
theorem runIn_reg {i : Instr} (c : Ctx) (s : State) {r : Reg} (hb : i.isBase = true) (h : r ∉ destRegs c.alt i) :
    (runIn i c s).reg r = s.reg r := by
  cases i
  case altd | ioi | ioe | exDEaHLa | exDEHLa => exact Bool.noConfusion hb
  case adcMhl | adcMix | adcMiy | addMhl | addMix | addMiy | andMhl | andMix | andMiy | orMhl | orMix | orMiy | sbcMhl
    | sbcMix | sbcMiy | subMhl | subMix | subMiy | xorMhl | xorMix | xorMiy =>
    exact (State.reg_advance _ c _).trans (s.reg_aluMem fun _ => List.ne_of_not_mem_cons h)
  case adcN | adcR | addN | addR | andN | andR | orN | orR | sbcN | sbcR | subN | subR | xorN | xorR =>
    exact (State.reg_advance _ c _).trans (s.reg_alu fun _ => List.ne_of_not_mem_cons h)
  case cpMhl | cpMix | cpMiy => exact (State.reg_advance _ c _).trans (s.reg_aluMem fun hw => Bool.noConfusion hw)
  case cpN | cpR => exact (State.reg_advance _ c _).trans (s.reg_alu fun hw => Bool.noConfusion hw)
  case ldi | ldd => exact (State.reg_advance _ c _).trans (s.reg_moveStep h)
  case ldir | lddr => exact (State.reg_repeatOrAdvance _ c _).trans (s.reg_moveStep h)
  case exDEaHL => exact (State.reg_advance _ c _).trans (s.reg_exchangeDEa h)
  case exDEHL => exact (State.reg_advance _ c _).trans (s.reg_exchangeDE h)
  case exx => exact (State.reg_advance _ c _).trans (s.reg_exchangeGeneral h)
  case ldpHLMhl | ldpHLMix | ldpHLMiy | ldpHLMmn => exact (State.reg_advance _ c _).trans (s.reg_setSS h)
  case exAF | mul =>
    simp only [destRegs, List.mem_cons, List.not_mem_nil, or_false, not_or] at h
    simp [Reg.destSS, Reg.destZZ, Reg.dest, h]
  all_goals simp_all [destRegs]

/-- Settles O11: each row is a chain of operations whose destinations the Operation column names. -/
theorem registersOutsideTheDestinationsKeepTheirValue :
    Obligations.RegistersOutsideTheDestinationsKeepTheirValue := by
  intro p i s t r hb ht hr
  rw [exec_wrap] at ht
  injection ht with ht
  subst ht
  exact runIn_reg p.ctx s hb hr

end Sys2Proof.Machine
end

section
/-!
PROOFS. PC after a row that assigns no target (spec/10_state.md R18, 30_encoding.md R68): the address of the byte after its
encoding, prefixes included.
-/
namespace Sys2Proof

/-- The encoding of a row that stands behind the prefixes has the table's length. -/
theorem encode_length_of_isBase {i : Instr} (hb : i.isBase = true) : (encode i).length = instrLength i := by
  cases i
  case altd | ioi | ioe => exact Bool.noConfusion hb
  all_goals rfl

/-- ALTD adds its byte, also where it makes a row of its own (42_move_exchange_stack.md R171 to R174). -/
theorem encode_altdOf (i : Instr) : encode (altdOf i) = 0x76 :: encode i := by cases i <;> rfl

theorem encode_wrap (p : Pfx) (i : Instr) : encode (p.wrap i) = p.bytes ++ encode i := by
  cases p
  case altd => exact encode_altdOf i
  case ioiAltd => exact congrArg (0xD3 :: ·) (encode_altdOf i)
  case ioeAltd => exact congrArg (0xDB :: ·) (encode_altdOf i)
  all_goals rfl

namespace Machine

/-- The last act of a row that is no control row is to move PC past its bytes; no act before it moves PC. -/
theorem runIn_ends_with_advance {i : Instr} (c : Ctx) (s : State) (hb : i.isBase = true) (hc : isControl i = false) :
    ∃ x : State, x.pc = s.pc ∧
      (runIn i c s = x.advance c (instrLength i) ∨ runIn i c s = x.advancePriv c (instrLength i)) := by
  cases i
  case altd | ioi | ioe => exact Bool.noConfusion hb
  case ldir | lddr | callMn | djnz | jpHL | jpIX | jpIY | jpF | jpMn | jrCC | jrE | lcall | ljp | lret | ret | retF
    | reti | rst => exact Bool.noConfusion hc
  case ipset0 | ipset1 | ipset2 | ipset3 | ipres | popIP | ldXPCA | ldSPHL | ldSPIX | ldSPIY | bitMhl =>
    exact ⟨_, by simp, .inr rfl⟩
  all_goals exact ⟨_, by simp, .inl rfl⟩

theorem runIn_pc {i : Instr} (c : Ctx) (s : State) (hb : i.isBase = true) (hc : isControl i = false) :
    (runIn i c s).pc = s.pc + BitVec.ofNat 16 (c.plen + instrLength i) := by
  obtain ⟨x, hpc, h | h⟩ := runIn_ends_with_advance c s hb hc <;> rw [h, ← hpc]
  · exact x.advance_pc c _
  · exact x.advancePriv_pc c _

/-- Settles O15, from the PC that `runIn` leaves and from the length of `encode`. -/
theorem pcMovesPastTheInstruction : Obligations.PcMovesPastTheInstruction := by
  intro p i s t hb hc ht
  rw [exec_wrap] at ht
  injection ht with ht
  subst ht
  exact ⟨runIn_pc p.ctx s hb hc, by rw [encode_wrap, List.length_append, encode_length_of_isBase hb]⟩

end Machine
end Sys2Proof
end

section
/-!
PROOFS. IP, EIR and the register pairs (spec/10_state.md R12, R21, R23).
-/
namespace Sys2Proof.Machine

/-! ## IP -/

section
variable (ip : Byte) (q : BitVec 2)

theorem ipPush_current : (ipPush ip q).extractLsb' 0 2 = q := BitVec.extractLsb'_append_eq_right

theorem ipPush_previous : (ipPush ip q).extractLsb' 2 2 = ip.extractLsb' 0 2 :=
  (BitVec.extractLsb'_append_eq_of_le (by decide)).trans (BitVec.extractLsb'_extractLsb'_of_le (by decide))

theorem ipPop_current : (ipPop ip).extractLsb' 0 2 = ip.extractLsb' 2 2 := by
  refine (BitVec.extractLsb'_append_eq_of_add_le (by decide)).trans ?_
  apply BitVec.eq_of_getLsbD_eq
  intro k hk
  simp [hk, show k < 6 by omega]

theorem ipPop_oldest : (ipPop ip).extractLsb' 6 2 = ip.extractLsb' 0 2 := BitVec.extractLsb'_append_eq_left

end

/-- After a row `inhibit` is 1 exactly when the row is privileged (60_exceptions.md R406). -/
theorem runIn_inhibit {i : Instr} (c : Ctx) (s : State) (hb : i.isBase = true) :
    (runIn i c s).inhibit = isPrivileged i := by
  cases i
  case altd | ioi | ioe => exact Bool.noConfusion hb
  case djnz | jpF | jrCC => exact State.branch_inhibit _ _ _ _ _
  case retF => exact State.retIf_inhibit _ _ _ _
  case ldir | lddr => exact State.repeatOrAdvance_inhibit _ _ _
  all_goals rfl

/-- A row that is not privileged keeps IP. -/
theorem runIn_ip {i : Instr} (c : Ctx) (s : State) (hb : i.isBase = true) (hp : isPrivileged i = false) :
    (runIn i c s).ip = s.ip := by
  cases i
  case altd | ioi | ioe => exact Bool.noConfusion hb
  case ipset0 | ipset1 | ipset2 | ipset3 | ipres | popIP | reti => exact Bool.noConfusion hp
  all_goals simp

/-- Settles O60: IPSET is `ipPush`, IPRES is `ipPop`, and the rows that write IP are privileged. -/
theorem ipIsAStackOfPriorities : Obligations.IpIsAStackOfPriorities := by
  intro s
  refine ⟨⟨_, rfl⟩, ⟨_, rfl⟩, ⟨_, rfl⟩, ⟨_, rfl⟩, ⟨_, rfl⟩, fun q => ⟨ipPush_current s.ip q, ipPush_previous s.ip q⟩,
    ipPop_current s.ip, ipPop_oldest s.ip, rfl, ⟨_, rfl⟩, ⟨_, rfl⟩, ⟨_, rfl, rfl, rfl⟩, ?_⟩
  intro i t hb ht hip
  rw [exec_eq_runIn] at ht
  injection ht with ht
  subst ht
  rw [runIn_inhibit _ s hb]
  by_contra hp
  exact hip (runIn_ip _ s hb (Bool.eq_false_of_not_eq_true hp))

/-! ## EIR -/

theorem runIn_eir {i : Instr} (c : Ctx) (s : State) (hb : i.isBase = true) (h : i ≠ .ldEIRA) :
    (runIn i c s).eir = s.eir := by
  cases i
  case altd | ioi | ioe => exact Bool.noConfusion hb
  case ldEIRA => exact absurd rfl h
  all_goals simp

/-- Settles O30: the two moves run to the states named, and `LD EIR,A` is the only row that writes EIR. -/
theorem eirMovesToAndFromA : Obligations.EirMovesToAndFromA := by
  intro s
  refine ⟨⟨_, rfl⟩, ⟨_, _, flagsAre_apply (flagsSZ s.eir) s.main.f, rfl⟩, ?_⟩
  intro i t hb hi ht
  rw [exec_eq_runIn] at ht
  injection ht with ht
  subst ht
  exact runIn_eir _ s hb hi

/-! ## Pairs -/

/-- A word of HL stored at two addresses that differ physically: L at the lower one, H at the upper one. -/
theorem State.mem8_wrMem16_hl (s : State) (a : Word) (h : s.phys a ≠ s.phys (a + 1)) :
    (s.wrMem16 a s.hl).mem8 a = s.main.l ∧ (s.wrMem16 a s.hl).mem8 (a + 1) = s.main.h :=
  ⟨(s.mem8_wrMem16_lo a s.hl h).trans (loByte_mkWord _ _), (s.mem8_wrMem16_hi a s.hl).trans (hiByte_mkWord _ _)⟩

/-- HL on the stack: H at SP-1, L at SP-2 (10_state.md R19). -/
theorem State.mem8_push16_hl (s : State) (h : s.phys (s.sp - 1) ≠ s.phys (s.sp - 2)) :
    (s.push16 s.hl).mem8 (s.sp - 1) = s.main.h ∧ (s.push16 s.hl).mem8 (s.sp - 2) = s.main.l :=
  ⟨(s.mem8_push16_hi s.hl h).trans (hiByte_mkWord _ _), (s.mem8_push16_lo s.hl).trans (loByte_mkWord _ _)⟩

/-- Settles O20: pairs are `mkWord` of their halves, and the two stores of HL put them where the statement says. -/
theorem registerPairsAreTheirHalves : Obligations.RegisterPairsAreTheirHalves := by
  intro k v x s
  refine ⟨rfl, rfl, rfl, rfl, ⟨rfl, mkWord_hi_lo v⟩, ⟨rfl, mkWord_hi_lo v⟩, ⟨rfl, mkWord_hi_lo v⟩,
    ⟨rfl, mkWord_hi_lo v⟩, ⟨rfl, rfl, rfl, rfl, rfl, rfl⟩, ⟨rfl, rfl, rfl, rfl⟩, ⟨rfl, rfl, rfl, rfl⟩,
    ⟨rfl, rfl, rfl, rfl⟩, ⟨rfl, rfl, rfl, rfl⟩, ?_⟩
  exact ⟨_, _, exec_eq_runIn _ s, s.mem8_wrMem16_hl v, exec_eq_runIn _ s, s.mem8_push16_hl⟩

end Sys2Proof.Machine
end

section
/-!
PROOFS. One step of the machine by what the decoder answers (spec/10_state.md R18, 30_encoding.md R69).
-/
namespace Sys2Proof.Machine

theorem step_of_decode {s : State} {i : Instr} {rest : List Byte} (h : decode s.fetchBytes = .ok (i, rest)) :
    step s = .next (runIn i Ctx.bare s).boundary := by
  simp [step, h, exec_eq_runIn]

theorem step_of_undefined {s : State} {e : DecodeError} (h : decode s.fetchBytes = .error e) :
    step s = .refused (.undefinedOpcode e) := by
  simp [step, h]

/-- Settles O4: `fetchBytes` is the list of bytes in the statement, and the two answers of the decoder are the two arms
of `step`. -/
theorem stepRunsTheDecodedInstruction : Obligations.StepRunsTheDecodedInstruction := by
  intro s
  exact ⟨fun _ => rfl, fun i _ h => ⟨_, exec_eq_runIn i s, step_of_decode h⟩, fun _ h => step_of_undefined h⟩

end Sys2Proof.Machine
end

section
/-!
PROOFS. The frame and the canonical form of memory (spec/20_memory.md R40, R41, R43, R45, R46, R48). Each row stores within
the addresses that `storedAt` lists (`StoresWithin`), which gives both the frame and the invariant.
-/
namespace Sys2Proof.Machine

/-- From `s` to `t` memory is stored to at no other physical address than those of `l`: every other byte reads as before,
and the canonical form is kept. -/
structure StoresWithin (l : List Phys) (s t : State) : Prop where
  /-- Every other byte reads as before. -/
  frame : ∀ q, q ∉ l → t.physRead q = s.physRead q
  /-- The canonical form is kept. -/
  canonical : s.Canonical → t.Canonical

section
variable {s t u : State} {l l' : List Phys}

theorem StoresWithin.of_mem_eq (h : t.mem = s.mem) : StoresWithin l s t :=
  ⟨fun q _ => State.physRead_congr h q, fun hs => by rwa [State.Canonical, h]⟩

theorem StoresWithin.trans (h : StoresWithin l s t) (h' : StoresWithin l' t u) : StoresWithin (l ++ l') s u := by
  refine ⟨fun q hq => ?_, fun hs => h'.canonical (h.canonical hs)⟩
  rw [List.mem_append, not_or] at hq
  obtain ⟨hl, hl'⟩ := hq
  exact (h'.frame q hl').trans (h.frame q hl)

/-- A change of other fields after the stores stores nothing. -/
theorem StoresWithin.then_mem_eq (h : StoresWithin l s t) (hu : u.mem = t.mem) : StoresWithin l s u := by
  simpa using h.trans (.of_mem_eq (l := []) hu)

end

/-! ## The shared operations that store -/

namespace State
variable (s : State) (c : Ctx)

theorem wrD8_storesWithin (a : Word) (v : Byte) : StoresWithin (storeBytes1 s c.io a) s (s.wrD8 c a v) :=
  ⟨s.wrD8_physRead c a v, s.wrD8_wf c a v⟩

theorem wrD16_storesWithin (a v : Word) : StoresWithin (storeBytes2 s c.io a) s (s.wrD16 c a v) :=
  ⟨s.wrD16_physRead c a v, s.wrD16_wf c a v⟩

theorem rmw_storesWithin (a : Word) (g : Byte → Byte) : StoresWithin (storeBytes1 s c.io a) s (s.rmw c a g) :=
  ⟨s.rmw_physRead c a g, s.rmw_wf c a g⟩

theorem moveStep_storesWithin (dir : Dir) : StoresWithin (storeBytes1 s c.io s.de) s (s.moveStep c dir) :=
  (s.wrD8_storesWithin c s.de _).then_mem_eq (s.moveStep_mem c dir)

/-- A store of a word that IOI and IOE do not move is `WrD` without prefixes. -/
theorem wrMem16_storesWithin (a v : Word) : StoresWithin (storeBytes2 s none a) s (s.wrMem16 a v) :=
  s.wrD16_storesWithin Ctx.bare a v

theorem ldpWrite_storesWithin (x v : Word) :
    StoresWithin [s.ldpAddr x, s.ldpAddr (x + 1)] s (s.ldpWrite x v) :=
  ⟨s.ldpWrite_physRead x v, s.ldpWrite_wf x v⟩

theorem push8_storesWithin (v : Byte) : StoresWithin [s.phys (s.sp - 1)] s (s.push8 v) :=
  ⟨fun q hq => s.push8_physRead v q (List.ne_of_not_mem_cons hq), s.push8_wf v⟩

theorem push16_storesWithin (v : Word) :
    StoresWithin [s.phys (s.sp - 1), s.phys (s.sp - 2)] s (s.push16 v) := by
  refine ⟨fun q hq => ?_, s.push16_wf v⟩
  simp only [List.mem_cons, List.not_mem_nil, or_false, not_or] at hq
  obtain ⟨hhi, hlo⟩ := hq
  exact s.push16_physRead v q hhi hlo

/-- A byte, then a word below it on the stack: what `LCALL` pushes (48_control.md R330). -/
theorem push8_push16_storesWithin (v : Byte) (w : Word) :
    StoresWithin [s.phys (s.sp - 1), s.phys (s.sp - 2), s.phys (s.sp - 3)] s ((s.push8 v).push16 w) := by
  have h1 : s.sp - 1 - 1 = s.sp - 2 := by bv_omega
  have h2 : s.sp - 1 - 2 = s.sp - 3 := by bv_omega
  have h := (s.push8_storesWithin v).trans ((s.push8 v).push16_storesWithin w)
  rw [push8_sp, h1, h2] at h
  exact h

end State

/-! ## The rows -/

/-- A row stores within the addresses `storedAt` lists; ALTD, IOI and IOE store what the row behind them stores. -/
theorem runIn_storesWithin (i : Instr) (c : Ctx) (s : State) : StoresWithin (storedAt i c s) s (runIn i c s) := by
  induction i generalizing c
  case altd j ih => exact ih c.withAlt
  case ioi j ih => exact ih (c.withIo .int)
  case ioe j ih => exact ih (c.withIo .ext)
  case ldMmnA | ldMbcA | ldMdeA | ldMhlN | ldMhlR | ldMixN | ldMixR | ldMiyN | ldMiyR =>
    exact (s.wrD8_storesWithin c _ _).then_mem_eq rfl
  case ldMmnHL | ldMmnIX | ldMmnIY | ldMmnSS | ldMhldHL | ldMixHL | ldMiyHL =>
    exact (s.wrD16_storesWithin c _ _).then_mem_eq rfl
  case ldMspHL | ldMspIX | ldMspIY | exMspIX | exMspIY => exact (s.wrMem16_storesWithin _ _).then_mem_eq rfl
  case exMspHL => exact (s.wrMem16_storesWithin s.sp s.hl).then_mem_eq (State.setSS_mem _ c.alt .hl (s.mem16 s.sp))
  case ldpMhlHL | ldpMixHL | ldpMiyHL | ldpMmnHL | ldpMmnIX | ldpMmnIY =>
    exact (s.ldpWrite_storesWithin _ _).then_mem_eq rfl
  case pushIP => exact (s.push8_storesWithin _).then_mem_eq rfl
  case pushIX | pushIY | callMn | rst => exact (s.push16_storesWithin _).then_mem_eq rfl
  case pushZZ zz => exact (s.push16_storesWithin _).then_mem_eq (State.afterPush_mem _ zz)
  case lcall => exact (s.push8_push16_storesWithin _ _).then_mem_eq rfl
  case resMhl | resMix | resMiy | setMhl | setMix | setMiy | incMhl | incMix | incMiy | decMhl | decMix | decMiy | rlMhl
    | rlMix | rlMiy | rlcMhl | rlcMix | rlcMiy | rrMhl | rrMix | rrMiy | rrcMhl | rrcMix | rrcMiy | slaMhl | slaMix
    | slaMiy | sraMhl | sraMix | sraMiy | srlMhl | srlMix | srlMiy =>
    exact (s.rmw_storesWithin c _ _).then_mem_eq rfl
  case ldi | ldd => exact (s.moveStep_storesWithin c _).then_mem_eq (State.advance_mem _ c 2)
  case ldir | lddr => exact (s.moveStep_storesWithin c _).then_mem_eq (State.repeatOrAdvance_mem _ c 2)
  all_goals exact .of_mem_eq (by simp)

/-- Settles O12, from what each row stores to. -/
theorem memoryOutsideTheStoredBytesKeepsItsValue : Obligations.MemoryOutsideTheStoredBytesKeepsItsValue := by
  intro p i s t q _ ht hq
  rw [exec_wrap] at ht
  injection ht with ht
  subst ht
  exact (runIn_storesWithin i p.ctx s).frame q hq

/-- Settles O3: the instruction keeps the canonical form, and so does taking an interrupt at the boundary behind it. -/
theorem stepKeepsMemoryCanonical : Obligations.StepKeepsMemoryCanonical := by
  intro s t hs ht
  cases hd : decode s.fetchBytes with
  | error e =>
    rw [step_of_undefined hd] at ht
    cases ht
  | ok r =>
    obtain ⟨i, rest⟩ := r
    rw [step_of_decode hd] at ht
    injection ht with ht
    subst ht
    exact State.boundary_wf _ ((runIn_storesWithin i Ctx.bare s).canonical hs)

/-- Settles O2: after reset nothing is listed. -/
theorem resetMemoryIsCanonical : Obligations.ResetMemoryIsCanonical := rfl

end Sys2Proof.Machine
end

section
/-!
PROOFS. What single rows store and read back: operand writes (spec/20_memory.md R48), words (R41), `LDP` (R46), and the
semaphore idiom (R52).
-/
namespace Sys2Proof.Machine

/-- Settles O21: without IOI and IOE `WrD` is a store of one byte, with one of them it is one event. -/
theorem operandWritesGoToMemoryOrToTheIoSpace : Obligations.OperandWritesGoToMemoryOrToTheIoSpace := by
  intro s c a v sp
  rcases s.wrD8_cases c a v with ⟨hio, e⟩ | ⟨sp', hio, e⟩ <;> rw [hio, e]
  · exact ⟨fun _ => ⟨s.mem8_wrMem8_same a v, s.wrMem8_ioWrites a v, s.physRead_wrMem8_other a v⟩, nofun⟩
  · exact ⟨nofun, fun hsp => by cases hsp; exact ⟨s.logIo_mem _, s.logIo_ioWrites _⟩⟩

/-- Settles O22: HL is stored as a word, which the two loads read back whole and by its low byte. -/
theorem sixteenBitDataIsLittleEndian : Obligations.SixteenBitDataIsLittleEndian := by
  intro s mn hmn
  obtain ⟨hl, hh⟩ := s.mem8_wrMem16_hl mn hmn
  exact ⟨_, _, _, exec_eq_runIn _ s, hl, hh, exec_eq_runIn _ _, s.mem16_wrMem16_same mn s.hl hmn, exec_eq_runIn _ _, hl⟩

/-! ## `LDP` -/

/-- The two bytes of an `LDP` are distinct: their addresses differ in the low 16 bits (20_memory.md R46). -/
theorem State.ldpAddr_ne_next (s : State) (x : Word) : s.ldpAddr x ≠ s.ldpAddr (x + 1) := by
  intro h
  have hx : x = x + 1 := calc
    x = (s.ldpAddr x).extractLsb' 0 16 := (s.ldpAddr_low x).symm
    _ = x + 1 := by rw [h, s.ldpAddr_low]
  bv_omega

/-- The two bytes an `LDP` store leaves, the low one at the operand (20_memory.md R46). -/
theorem State.physRead_ldpWrite (s : State) (x v : Word) :
    (s.ldpWrite x v).physRead (s.ldpAddr x) = loByte v ∧ (s.ldpWrite x v).physRead (s.ldpAddr (x + 1)) = hiByte v := by
  refine ⟨?_, State.physRead_physWrite_same _ _ _⟩
  exact (State.physRead_physWrite_other _ _ _ _ (s.ldpAddr_ne_next x)).trans (State.physRead_physWrite_same _ _ _)

/-- Settles O28: each row is an `LDP` access whatever its prefixes are; its two addresses differ and lie in one page. -/
theorem ldpUsesAPhysicalAddressInOnePage : Obligations.LdpUsesAPhysicalAddressInOnePage := by
  intro p s mn
  refine ⟨runs_of_runIn rfl, runs_of_runIn rfl, runs_of_runIn rfl, runs_of_runIn rfl, runs_of_runIn rfl,
    runs_of_runIn rfl, runs_of_runIn rfl, runs_of_runIn rfl, runs_of_runIn rfl, runs_of_runIn rfl, runs_of_runIn rfl,
    runs_of_runIn rfl, s.physRead_ldpWrite, fun x => ?_⟩
  exact (s.ldpAddr_page (x + 1)).trans (s.ldpAddr_page x).symm

/-! ## The semaphore idiom -/

/-- While `inhibit` is 1 a boundary takes no request (60_exceptions.md R405, R406). -/
theorem State.boundary_of_inhibit {s : State} (h : s.inhibit = true) :
    s.boundary = { s with irq := s.irq.tail } := by
  rcases s.boundary_cases with e | ⟨q, rest, -, ha, -⟩
  · exact e
  · simp [State.accepts, h] at ha

theorem getLsbD_setBit (b : BitVec 3) (v : Byte) : (setBit b v).getLsbD b.toNat = true := by
  have hb : b.toNat < 8 := b.isLt
  simp [setBit, hb]

/-- Settles O47: `BIT` leaves `inhibit` = 1 and changes only F, so `SET` reads the byte that was tested; it changes only
memory, so F keeps the Z of the test. -/
theorem semaphoreIdiomTakesTheOldBit : Obligations.SemaphoreIdiomTakesTheOldBit := by
  intro s b
  have hclosed := State.boundary_of_inhibit (s := runIn (.bitMhl b) Ctx.bare s) rfl
  refine ⟨_, _, exec_eq_runIn _ s, hclosed, exec_eq_runIn _ _, ?_⟩
  have hset : ((s.wrMem8 s.hl (setBit b (s.mem8 s.hl))).mem8 s.hl).getLsbD b.toNat = true := by
    rw [State.mem8_wrMem8_same, getLsbD_setBit]
  rw [hclosed]
  exact ⟨flagZ_apply (flagsBit b (s.mem8 s.hl)) s.main.f, hset, rfl⟩

end Sys2Proof.Machine
end

section
/-!
PROOFS. The fields of an opcode byte and the prefixes (spec/30_encoding.md R63, R66). `takePfx` takes a defined set of
prefixes and stops in front of a byte that the set does not go on with; the well-formed instructions are the rows behind
such a set.
-/
namespace Sys2Proof

/-! ## The fields of an opcode byte (30_encoding.md R63) -/

section
variable (x : BitVec 2) (y z : BitVec 3)

@[simp] theorem opX_fields : opX (x ++ y ++ z) = x := by
  rw [opX, BitVec.append_assoc, BitVec.cast_eq]
  exact BitVec.extractLsb'_append_eq_left

@[simp] theorem opY_fields : opY (x ++ y ++ z) = y := by
  rw [opY, BitVec.extractLsb'_append_eq_of_le (by decide)]
  exact BitVec.extractLsb'_append_eq_right

@[simp] theorem opZ_fields : opZ (x ++ y ++ z) = z := BitVec.extractLsb'_append_eq_right

end

/-- An opcode byte is its three fields. -/
theorem fields_of_byte (op : Byte) : opX op ++ opY op ++ opZ op = op := by revert op; decide

/-- The four codes of a 2-bit field, as a rule for `cases`. -/
theorem casesBits2 {p : BitVec 2 → Prop} (b00 : p 0b00) (b01 : p 0b01) (b10 : p 0b10) (b11 : p 0b11) (x : BitVec 2) :
    p x := by
  have hx : x = 0b00 ∨ x = 0b01 ∨ x = 0b10 ∨ x = 0b11 := by revert x; decide
  rcases hx with rfl | rfl | rfl | rfl <;> assumption

/-- The eight codes of a 3-bit field, as a rule for `cases`. -/
theorem casesBits3 {p : BitVec 3 → Prop} (b000 : p 0b000) (b001 : p 0b001) (b010 : p 0b010) (b011 : p 0b011)
    (b100 : p 0b100) (b101 : p 0b101) (b110 : p 0b110) (b111 : p 0b111) (y : BitVec 3) : p y := by
  have hy : y = 0b000 ∨ y = 0b001 ∨ y = 0b010 ∨ y = 0b011 ∨ y = 0b100 ∨ y = 0b101 ∨ y = 0b110 ∨
      y = 0b111 := by
    revert y; decide
  rcases hy with rfl | rfl | rfl | rfl | rfl | rfl | rfl | rfl <;> assumption

/-! ## Splitting off the prefixes (30_encoding.md R66) -/

/-- The prefixes taken stand in front of the rest. -/
theorem takePfx_bytes (bs : List Byte) : (takePfx bs).1.bytes ++ (takePfx bs).2 = bs := by
  unfold takePfx
  repeat' split
  all_goals simp_all [Pfx.bytes]

/-- The whole set is taken in front of a byte that it does not go on with: it has its ALTD, or its IOI or IOE. -/
theorem takePfx_append {p : Pfx} {op : Byte} (rest : List Byte) (halt : op = 0x76 → p.hasAlt = true)
    (hio : op = 0xD3 ∨ op = 0xDB → p.io ≠ none) : takePfx (p.bytes ++ op :: rest) = (p, op :: rest) := by
  cases p <;> simp_all [Pfx.bytes, Pfx.hasAlt, Pfx.io, takePfx]

/-- Behind the prefixes the pages refuse ALTD, IOI and IOE. -/
theorem decodeBase_of_prefixByte {op : Byte} (rest : List Byte) (h : op = 0x76 ∨ op = 0xD3 ∨ op = 0xDB) :
    decodeBase (op :: rest) = .error (.prefixRun op) := by
  rcases h with rfl | rfl | rfl <;> rfl

/-- What the pages read behind any prefixes is decoded with them. -/
theorem decode_of_decodeBase (p : Pfx) {bs rest : List Byte} {i : Instr} (h : decodeBase bs = .ok (i, rest)) :
    decode (p.bytes ++ bs) = .ok (p.wrap i, rest) := by
  cases bs with
  | nil => nomatch h
  | cons op tl =>
    have hop : ¬ (op = 0x76 ∨ op = 0xD3 ∨ op = 0xDB) := fun hp => by
      rw [decodeBase_of_prefixByte tl hp] at h
      cases h
    rw [not_or] at hop
    obtain ⟨h76, hD⟩ := hop
    rw [decode, takePfx_append tl (absurd · h76) (absurd · hD), h]

/-- What the pages refuse is refused behind any prefixes that do not go on with the byte. -/
theorem decode_of_decodeBase_error {p : Pfx} {op : Byte} {rest : List Byte} {e : DecodeError}
    (halt : op = 0x76 → p.hasAlt = true) (hio : op = 0xD3 ∨ op = 0xDB → p.io ≠ none)
    (h : decodeBase (op :: rest) = .error e) : decode (p.bytes ++ op :: rest) = .error e := by
  rw [decode, takePfx_append rest halt hio, h]

/-! ## Well-formed instructions are the rows behind defined prefixes (30_encoding.md R66) -/

theorem Instr.not_isPrefixed_of_isBase {i : Instr} (h : i.isBase = true) : i.isPrefixed = false := by
  simp_all [isBase]

@[simp] theorem Instr.afterAltd_altd (j : Instr) : afterAltd (.altd j) = some j := rfl

theorem Instr.afterAltd_of_not_isPrefixed {i : Instr} (h : i.isPrefixed = false) : i.afterAltd = none := by
  cases i
  case altd => exact Bool.noConfusion h
  all_goals rfl

theorem Instr.afterIo_of_not_isPrefixed {i : Instr} (h : i.isPrefixed = false) : i.afterIo = none := by
  cases i
  case ioi | ioe => exact Bool.noConfusion h
  all_goals rfl

theorem Instr.eq_altd_of_afterAltd {i j : Instr} (h : i.afterAltd = some j) : i = .altd j := by
  cases i
  case altd => cases h; rfl
  all_goals nomatch h

theorem Instr.eq_io_of_afterIo {i j : Instr} (h : i.afterIo = some j) : i = .ioi j ∨ i = .ioe j := by
  cases i
  case ioi => cases h; exact .inl rfl
  case ioe => cases h; exact .inr rfl
  all_goals nomatch h

/-- ALTD makes one of the two rows of its own, or stands as a constructor (42_move_exchange_stack.md R171 to R174). -/
theorem altdOf_cases (i : Instr) :
    i.hasAltdRow = true ∧ (altdOf i).isPrefixed = false ∨ i.hasAltdRow = false ∧ altdOf i = .altd i := by
  cases i
  case exDEaHL | exDEHL => exact .inl ⟨rfl, rfl⟩
  all_goals exact .inr ⟨rfl, rfl⟩

/-- A term that starts with none of the three constructors ALTD, IOI and IOE is a row, or one of the two ALTD forms. -/
theorem Instr.base_or_altdOf {i : Instr} (h : i.isPrefixed = false) :
    i.isBase = true ∨ ∃ j : Instr, j.isBase = true ∧ i = altdOf j := by
  cases i
  case altd | ioi | ioe => exact Bool.noConfusion h
  case exDEaHLa => exact .inr ⟨.exDEaHL, rfl, rfl⟩
  case exDEHLa => exact .inr ⟨.exDEHL, rfl, rfl⟩
  all_goals exact .inl rfl

theorem Instr.wf_of_not_isPrefixed {i : Instr} (h : i.isPrefixed = false) : WellFormed i := by
  simp [WellFormed, wf, afterAltd_of_not_isPrefixed h, afterIo_of_not_isPrefixed h]

theorem wf_altdOf {i : Instr} (h : i.isBase = true) : WellFormed (altdOf i) := by
  rcases altdOf_cases i with ⟨-, hp⟩ | ⟨hrow, e⟩
  · exact Instr.wf_of_not_isPrefixed hp
  · have hio : i.afterIo = none := Instr.afterIo_of_not_isPrefixed (Instr.not_isPrefixed_of_isBase h)
    simp [e, WellFormed, Instr.wf, hio, h, hrow]

/-- Behind IOI or IOE stands a row or an ALTD form. -/
theorem wf_io_iff {i j : Instr} (ha : i.afterAltd = none) (hio : i.afterIo = some j) :
    WellFormed i ↔ j.isBase = true ∨ ∃ k : Instr, k.isBase = true ∧ j = altdOf k := by
  have hplain (h : j.isPrefixed = false) : WellFormed i := by
    simp [WellFormed, Instr.wf, ha, hio, Instr.afterAltd_of_not_isPrefixed h, h]
  constructor
  · intro h
    cases hj : j.afterAltd with
    | some k =>
      obtain ⟨hk, hrow⟩ : k.isBase = true ∧ k.hasAltdRow = false := by
        simpa [WellFormed, Instr.wf, ha, hio, hj] using h
      rcases altdOf_cases k with ⟨h', -⟩ | ⟨-, e⟩
      · simp [hrow] at h'
      · exact .inr ⟨k, hk, (Instr.eq_altd_of_afterAltd hj).trans e.symm⟩
    | none => exact Instr.base_or_altdOf (by simpa [WellFormed, Instr.wf, ha, hio, hj] using h)
  · rintro (hb | ⟨k, hk, rfl⟩)
    · exact hplain (Instr.not_isPrefixed_of_isBase hb)
    · rcases altdOf_cases k with ⟨-, hp⟩ | ⟨hrow, e⟩
      · exact hplain hp
      · simp [WellFormed, Instr.wf, ha, hio, e, hk, hrow]

theorem wf_wrap (p : Pfx) {i : Instr} (h : i.isBase = true) : WellFormed (p.wrap i) := by
  have hp : i.isPrefixed = false := Instr.not_isPrefixed_of_isBase h
  cases p
  case none => exact Instr.wf_of_not_isPrefixed hp
  case altd => exact wf_altdOf h
  case ioi => exact (wf_io_iff rfl rfl).mpr (.inl h)
  case ioe => exact (wf_io_iff rfl rfl).mpr (.inl h)
  case altdIoi | altdIoe => exact h
  case ioiAltd => exact (wf_io_iff rfl rfl).mpr (.inr ⟨i, h, rfl⟩)
  case ioeAltd => exact (wf_io_iff rfl rfl).mpr (.inr ⟨i, h, rfl⟩)

/-- A well-formed instruction is a row behind defined prefixes. -/
theorem exists_wrap_of_wf {i : Instr} (h : WellFormed i) :
    ∃ (p : Pfx) (j : Instr), j.isBase = true ∧ i = p.wrap j := by
  cases i
  case altd j =>
    cases hj : j.afterIo with
    | some k =>
      have hk : k.isBase = true := by simpa [WellFormed, Instr.wf, hj] using h
      rcases Instr.eq_io_of_afterIo hj with rfl | rfl
      · exact ⟨.altdIoi, k, hk, rfl⟩
      · exact ⟨.altdIoe, k, hk, rfl⟩
    | none =>
      obtain ⟨hb, hrow⟩ : j.isBase = true ∧ j.hasAltdRow = false := by
        simpa [WellFormed, Instr.wf, hj] using h
      rcases altdOf_cases j with ⟨h', -⟩ | ⟨-, e⟩
      · simp [hrow] at h'
      · exact ⟨.altd, j, hb, e.symm⟩
  case ioi j =>
    rcases (wf_io_iff rfl rfl).mp h with hb | ⟨k, hk, rfl⟩
    · exact ⟨.ioi, j, hb, rfl⟩
    · exact ⟨.ioiAltd, k, hk, rfl⟩
  case ioe j =>
    rcases (wf_io_iff rfl rfl).mp h with hb | ⟨k, hk, rfl⟩
    · exact ⟨.ioe, j, hb, rfl⟩
    · exact ⟨.ioeAltd, k, hk, rfl⟩
  case exDEaHLa => exact ⟨.altd, .exDEaHL, rfl, rfl⟩
  case exDEHLa => exact ⟨.altd, .exDEHL, rfl, rfl⟩
  all_goals exact ⟨.none, _, rfl, rfl⟩

end Sys2Proof
end

section
/-!
PROOFS. What the opcode pages read is what the encoder writes (spec/30_encoding.md R61 to R67), in both directions.
Every entry of a page is a refusal or a row in one of the operand forms (`Entry`).
-/
namespace Sys2Proof

/-! ## The entries of the opcode pages -/

/-- What a page may hold for the bytes `pre`: no row, or a row whose encoding is `pre` and then the operand bytes of one
of the forms of 30_encoding.md R61. -/
inductive Entry (pre rest : List Byte) : Decoded → Prop
  | refused (e : DecodeError) : Entry pre rest (.error e)
  | operand0 (i : Instr) (hb : i.isBase = true) (he : encode i = pre) : Entry pre rest (operand0 i rest)
  | operand1 (k : Byte → Instr) (hb : ∀ n, (k n).isBase = true) (he : ∀ n, encode (k n) = pre ++ [n]) :
      Entry pre rest (operand1 k rest)
  | operandWord (k : Word → Instr) (hb : ∀ w, (k w).isBase = true)
      (he : ∀ w, encode (k w) = pre ++ [loByte w, hiByte w]) : Entry pre rest (operandWord k rest)
  | operandDN (k : Byte → Byte → Instr) (hb : ∀ d n, (k d n).isBase = true)
      (he : ∀ d n, encode (k d n) = pre ++ [d, n]) : Entry pre rest (operandDN k rest)
  | operandFar (k : Byte → Word → Instr) (hb : ∀ x w, (k x w).isBase = true)
      (he : ∀ x w, encode (k x w) = pre ++ [loByte w, hiByte w, x]) : Entry pre rest (operandFar k rest)

/-- The answer `d` for the bytes `bs`: the row it reads, if any, is one whose encoding `bs` starts with, and the bytes
after it are left. -/
def ReadsEncoding (bs : List Byte) (d : Decoded) : Prop :=
  ∀ (i : Instr) (r : List Byte), d = .ok (i, r) → i.isBase = true ∧ bs = encode i ++ r

theorem readsEncoding_error (bs : List Byte) (e : DecodeError) : ReadsEncoding bs (.error e) := nofun

theorem Entry.readsEncoding {pre rest : List Byte} {d : Decoded} (h : Entry pre rest d) :
    ReadsEncoding (pre ++ rest) d := by
  intro i r hd
  cases h with
  | refused e => nomatch hd
  | operand0 j hb he => cases hd; exact ⟨hb, by rw [he]⟩
  | operand1 k hb he =>
    match rest, hd with
    | n :: r, rfl => exact ⟨hb n, by simp [he]⟩
  | operandWord k hb he =>
    match rest, hd with
    | n :: m :: r, rfl => exact ⟨hb _, by simp [he]⟩
  | operandDN k hb he =>
    match rest, hd with
    | d :: n :: r, rfl => exact ⟨hb d n, by simp [he]⟩
  | operandFar k hb he =>
    match rest, hd with
    | n :: m :: x :: r, rfl => exact ⟨hb x _, by simp [he]⟩

/-! ## The pages with a first byte of their own (30_encoding.md R67) -/

theorem decodeED_entry (op : Byte) (rest : List Byte) : Entry [0xED, op] rest (decodeED op rest) := by
  unfold decodeED
  split
  pick_goal -1
  case _ => exact .refused _
  all_goals
    rename_i hop
    obtain ⟨-, rfl⟩ := BitVec.toNat_eq_nat.mp hop
    constructor <;> intros <;> rfl

theorem decodeDD_entry {op : Byte} (rest : List Byte) (h : op ≠ 0xCB) : Entry [0xDD, op] rest (decodeDD op rest) := by
  unfold decodeDD
  split
  pick_goal -1
  case _ => exact .refused _
  pick_goal -1
  case _ hop => exact absurd (BitVec.toNat_eq_nat.mp hop).2 h
  all_goals
    rename_i hop
    obtain ⟨-, rfl⟩ := BitVec.toNat_eq_nat.mp hop
    constructor <;> intros <;> rfl

theorem decodeFD_entry {op : Byte} (rest : List Byte) (h : op ≠ 0xCB) : Entry [0xFD, op] rest (decodeFD op rest) := by
  unfold decodeFD
  split
  pick_goal -1
  case _ => exact .refused _
  pick_goal -1
  case _ hop => exact absurd (BitVec.toNat_eq_nat.mp hop).2 h
  all_goals
    rename_i hop
    obtain ⟨-, rfl⟩ := BitVec.toNat_eq_nat.mp hop
    constructor <;> intros <;> rfl

/-- The shift rows, the refused select 110 between them (30_encoding.md R67). -/
theorem decodeCB_entry (x : BitVec 2) (y z : BitVec 3) (rest : List Byte) :
    Entry [0xCB, x ++ y ++ z] rest (decodeCB (x ++ y ++ z) rest) := by
  simp only [decodeCB, opX_fields, opY_fields, opZ_fields]
  cases hz : R8.ofCode z with
  | some r =>
    obtain rfl := R8.code_of_ofCode z r hz
    cases x using casesBits2
    case b00 => cases y using casesBits3 <;> constructor <;> rfl
    all_goals constructor <;> rfl
  | none =>
    obtain rfl := (R8.ofCode_none z).mp hz
    cases x using casesBits2
    case b00 => cases y using casesBits3 <;> constructor <;> rfl
    all_goals constructor <;> rfl

theorem decodeDDCB_entry (d : Byte) (x : BitVec 2) (y z : BitVec 3) (rest : List Byte) :
    Entry [0xDD, 0xCB, d, x ++ y ++ z] rest (decodeDDCB d (x ++ y ++ z) rest) := by
  simp only [decodeDDCB, opX_fields, opY_fields, opZ_fields]
  split
  case isFalse => exact .refused _
  case isTrue hz =>
    subst hz
    cases x using casesBits2
    case b00 => cases y using casesBits3 <;> constructor <;> rfl
    all_goals constructor <;> rfl

theorem decodeFDCB_entry (d : Byte) (x : BitVec 2) (y z : BitVec 3) (rest : List Byte) :
    Entry [0xFD, 0xCB, d, x ++ y ++ z] rest (decodeFDCB d (x ++ y ++ z) rest) := by
  simp only [decodeFDCB, opX_fields, opY_fields, opZ_fields]
  split
  case isFalse => exact .refused _
  case isTrue hz =>
    subst hz
    cases x using casesBits2
    case b00 => cases y using casesBits3 <;> constructor <;> rfl
    all_goals constructor <;> rfl

/-! ## The page of the first byte -/

/-- Bits 7:6 = 00. -/
theorem decodeX0_entry (y z : BitVec 3) (rest : List Byte) :
    Entry [0b00#2 ++ y ++ z] rest (decodeX0 (0b00#2 ++ y ++ z) rest) := by
  cases z using casesBits3 <;> cases y using casesBits3
  all_goals constructor <;> intros <;> rfl

/-- Bits 7:6 = 01: the fields name the destination and the source; both 110 is the ALTD byte (30_encoding.md R64). -/
theorem decodeX1_entry (y z : BitVec 3) (rest : List Byte) :
    Entry [0b01#2 ++ y ++ z] rest (decodeX1 (0b01#2 ++ y ++ z) rest) := by
  simp only [decodeX1, opY_fields, opZ_fields]
  split
  case h_1 r g hy hz =>
    obtain rfl := R8.code_of_ofCode y r hy
    obtain rfl := R8.code_of_ofCode z g hz
    exact .operand0 _ rfl rfl
  case h_2 r hy hz =>
    obtain rfl := R8.code_of_ofCode y r hy
    obtain rfl := (R8.ofCode_none z).mp hz
    exact .operand0 _ rfl rfl
  case h_3 r hy hz =>
    obtain rfl := (R8.ofCode_none y).mp hy
    obtain rfl := R8.code_of_ofCode z r hz
    exact .operand0 _ rfl rfl
  case h_4 => exact .refused _

/-- Bits 7:6 = 10: the operation and its operand. -/
theorem decodeX2_entry (y z : BitVec 3) (rest : List Byte) :
    Entry [0b10#2 ++ y ++ z] rest (decodeX2 (0b10#2 ++ y ++ z) rest) := by
  simp only [decodeX2, opY_fields, opZ_fields]
  cases hz : R8.ofCode z with
  | some r =>
    obtain rfl := R8.code_of_ofCode z r hz
    cases y using casesBits3 <;> exact .operand0 _ rfl rfl
  | none =>
    obtain rfl := (R8.ofCode_none z).mp hz
    cases y using casesBits3 <;> exact .operand0 _ rfl rfl

/-- The page of `DD`, its page `CB` included. -/
theorem decodeDD_readsEncoding (op : Byte) (rest : List Byte) :
    ReadsEncoding (0xDD :: op :: rest) (decodeDD op rest) := by
  by_cases hop : op = 0xCB
  · subst hop
    match rest with
    | [] | [_] => exact readsEncoding_error _ .truncated
    | d :: k :: r =>
      rw [← fields_of_byte k]
      exact (decodeDDCB_entry d _ _ _ r).readsEncoding
  · exact (decodeDD_entry rest hop).readsEncoding

/-- The page of `FD`, its page `CB` included. -/
theorem decodeFD_readsEncoding (op : Byte) (rest : List Byte) :
    ReadsEncoding (0xFD :: op :: rest) (decodeFD op rest) := by
  by_cases hop : op = 0xCB
  · subst hop
    match rest with
    | [] | [_] => exact readsEncoding_error _ .truncated
    | d :: k :: r =>
      rw [← fields_of_byte k]
      exact (decodeFDCB_entry d _ _ _ r).readsEncoding
  · exact (decodeFD_entry rest hop).readsEncoding

/-- Bits 7:6 = 11: the four bytes `CB`, `DD`, `ED` and `FD` lead to a page, every other byte is an entry. -/
theorem decodeX3_readsEncoding (y z : BitVec 3) (rest : List Byte) :
    ReadsEncoding ((0b11#2 ++ y ++ z) :: rest) (decodeX3 (0b11#2 ++ y ++ z) rest) := by
  cases z using casesBits3 <;> cases y using casesBits3
  case b011.b001 =>
    cases rest with
    | nil => exact readsEncoding_error _ .truncated
    | cons k r =>
      rw [← fields_of_byte k]
      exact (decodeCB_entry _ _ _ r).readsEncoding
  case b101.b011 =>
    cases rest with
    | nil => exact readsEncoding_error _ .truncated
    | cons k r => exact decodeDD_readsEncoding k r
  case b101.b101 =>
    cases rest with
    | nil => exact readsEncoding_error _ .truncated
    | cons k r => exact (decodeED_entry k r).readsEncoding
  case b101.b111 =>
    cases rest with
    | nil => exact readsEncoding_error _ .truncated
    | cons k r => exact decodeFD_readsEncoding k r
  all_goals exact Entry.readsEncoding (pre := [_]) (by constructor <;> intros <;> rfl)

theorem decodeBase_readsEncoding (bs : List Byte) : ReadsEncoding bs (decodeBase bs) := by
  cases bs with
  | nil => exact readsEncoding_error _ .truncated
  | cons op rest =>
    rw [← fields_of_byte op, decodeBase, opX_fields]
    generalize opX op = x
    cases x using casesBits2
    case b00 => exact (decodeX0_entry _ _ rest).readsEncoding
    case b01 => exact (decodeX1_entry _ _ rest).readsEncoding
    case b10 => exact (decodeX2_entry _ _ rest).readsEncoding
    case b11 => exact decodeX3_readsEncoding _ _ rest

/-- Settles O8: the prefixes are what stands before the rest, and the pages read the encoding of a row. -/
theorem decodedBytesAreTheEncoding : Obligations.DecodedBytesAreTheEncoding := by
  intro bs i rest h
  rw [decode] at h
  cases hd : decodeBase (takePfx bs).2 with
  | error e =>
    rw [hd] at h
    cases h
  | ok res =>
    rw [hd] at h
    cases h
    obtain ⟨hb, he⟩ := decodeBase_readsEncoding _ _ _ hd
    refine ⟨wf_wrap _ hb, ?_⟩
    calc
      bs = (takePfx bs).1.bytes ++ (takePfx bs).2 := (takePfx_bytes bs).symm
      _ = encode ((takePfx bs).1.wrap res.1) ++ res.2 := by rw [he, encode_wrap, List.append_assoc]

/-! ## The pages read what the encoder writes -/

@[simp] theorem operandFar_halves (k : Byte → Word → Instr) (w : Word) (x : Byte) (rest : List Byte) :
    operandFar k (loByte w :: hiByte w :: x :: rest) = .ok (k x w, rest) := by
  simp only [operandFar, mkWord_hi_lo]

/-- Behind the prefixes the pages read each row back from its encoding. -/
theorem decodeBase_encode {i : Instr} (rest : List Byte) (hb : i.isBase = true) :
    decodeBase (encode i ++ rest) = .ok (i, rest) := by
  cases i
  case altd | ioi | ioe | exDEaHLa | exDEHLa => exact Bool.noConfusion hb
  case ldRG r g =>
    change decodeBase ((0b01#2 ++ r.code ++ g.code) :: rest) = _
    simp [decodeBase, decodeX1, operand0]
  case bitR b r | resR b r | setR b r => cases b using casesBits3 <;> cases r <;> rfl
  case bitMhl b | resMhl b | setMhl b | bitMix b d | resMix b d | setMix b d | bitMiy b d | resMiy b d | setMiy b d =>
    cases b using casesBits3 <;> rfl
  case ldRN r _ | ldMhlR r | ldRMhl r | ldMixR _ r | ldRMix r _ | ldMiyR _ r | ldRMiy r _ | adcR r | addR r | andR r
    | cpR r | orR r | sbcR r | subR r | xorR r | decR r | incR r | rlR r | rlcR r | rrR r | rrcR r | slaR r | sraR r
    | srlR r => cases r <;> rfl
  case ldDDaBC dd | ldDDaDE dd => cases dd <;> rfl
  case adcHLss ss | addHLss ss | sbcHLss ss | decSS ss | incSS ss => cases ss <;> rfl
  case addIXxx xx => cases xx <;> rfl
  case addIYyy yy => cases yy <;> rfl
  case popZZ zz | pushZZ zz => cases zz <;> rfl
  case jrCC cc _ => cases cc <;> rfl
  case retF f => cases f <;> rfl
  case rst v => cases v <;> rfl
  case ldDDmn dd mn => cases dd <;> exact operandWord_halves _ mn rest
  case ldMmnSS mn ss => cases ss <;> exact operandWord_halves (Instr.ldMmnSS · _) mn rest
  case ldDDMmn dd mn => cases dd <;> exact operandWord_halves _ mn rest
  case jpF f mn => cases f <;> exact operandWord_halves _ mn rest
  case ldIXmn mn | ldIYmn mn | ldMmnA mn | ldAMmn mn | ldMmnHL mn | ldMmnIX mn | ldMmnIY mn | ldHLMmn mn | ldIXMmn mn
    | ldIYMmn mn | ldpMmnHL mn | ldpMmnIX mn | ldpMmnIY mn | ldpHLMmn mn | ldpIXMmn mn | ldpIYMmn mn | callMn mn
    | jpMn mn => exact operandWord_halves _ mn rest
  case lcall x mn | ljp x mn => exact operandFar_halves _ mn x rest
  all_goals rfl

/-- Settles O7: a well-formed instruction is a row behind defined prefixes, which are split off again. -/
theorem decodeOfEncodeIsTheInstruction : Obligations.DecodeOfEncodeIsTheInstruction := by
  intro i rest h
  obtain ⟨p, j, hb, rfl⟩ := exists_wrap_of_wf h
  rw [encode_wrap, List.append_assoc]
  exact decode_of_decodeBase p (decodeBase_encode rest hb)

end Sys2Proof
end

section
/-!
PROOFS. The byte sequences that are no instruction (spec/30_encoding.md R66, R67, R69) and words of the spec's examples.
-/
namespace Sys2Proof

/-! ## What the pages refuse -/

/-- The shift select 110 of page `CB`. -/
theorem decodeCB_undefined (k : BitVec 3) (rest : List Byte) :
    decodeCB (0b00110#5 ++ k) rest = .error (.undefinedCB (0b00110#5 ++ k)) := by
  cases k using casesBits3 <;> rfl

theorem decodeED_undefined {op : Byte} (rest : List Byte) (h : op ∉ opcodesED) :
    decodeED op rest = .error (.undefinedED op) := by
  unfold decodeED
  split
  pick_goal -1
  case _ => rfl
  all_goals
    rename_i hop
    obtain ⟨-, rfl⟩ := BitVec.toNat_eq_nat.mp hop
    exact absurd (by decide) h

theorem decodeDD_undefined {op : Byte} (rest : List Byte) (h : op ∉ opcodesIndex) :
    decodeDD op rest = .error (.undefinedDD op) := by
  unfold decodeDD
  split
  pick_goal -1
  case _ => rfl
  all_goals
    rename_i hop
    obtain ⟨-, rfl⟩ := BitVec.toNat_eq_nat.mp hop
    exact absurd (by decide) h

theorem decodeFD_undefined {op : Byte} (rest : List Byte) (h : op ∉ opcodesIndex) :
    decodeFD op rest = .error (.undefinedFD op) := by
  unfold decodeFD
  split
  pick_goal -1
  case _ => rfl
  all_goals
    rename_i hop
    obtain ⟨-, rfl⟩ := BitVec.toNat_eq_nat.mp hop
    exact absurd (by decide) h

/-- Page `DD CB` lists no register operand, and no shift select 110. -/
theorem decodeDDCB_undefined (d : Byte) {op : Byte} (rest : List Byte) (h : opZ op ≠ 0b110 ∨ op = 0x36) :
    decodeDDCB d op rest = .error (.undefinedDDCB op) := by
  rcases h with hz | rfl
  · exact if_neg hz
  · rfl

/-- Page `FD CB` lists no register operand, and no shift select 110. -/
theorem decodeFDCB_undefined (d : Byte) {op : Byte} (rest : List Byte) (h : opZ op ≠ 0b110 ∨ op = 0x36) :
    decodeFDCB d op rest = .error (.undefinedFDCB op) := by
  rcases h with hz | rfl
  · exact if_neg hz
  · rfl

/-- Any other byte than ALTD, IOI and IOE ends the prefixes: what the pages refuse from it on is refused behind them. -/
theorem decode_of_page_error (p : Pfx) {op : Byte} {rest : List Byte} {e : DecodeError}
    (hop : op ≠ 0x76 ∧ op ≠ 0xD3 ∧ op ≠ 0xDB) (h : decodeBase (op :: rest) = .error e) :
    decode (p.bytes ++ op :: rest) = .error e := by
  obtain ⟨h76, hD3, hDB⟩ := hop
  exact decode_of_decodeBase_error (absurd · h76) (fun hD => (hD.elim hD3 hDB).elim) h

/-- Settles O6: each page refuses what it does not list, and a byte that the prefixes do not go on with is left to
the pages, which list none of ALTD, IOI and IOE. -/
theorem undefinedBytesAreRefused : Obligations.UndefinedBytesAreRefused := by
  intro p rest k d op
  refine ⟨?_, fun h => ?_, fun h => ⟨?_, ?_⟩, fun h => ⟨?_, ?_⟩, ?_⟩
  · exact decode_of_page_error p (by decide) (decodeCB_undefined k rest)
  · exact decode_of_page_error p (by decide) (decodeED_undefined rest h)
  · exact decode_of_page_error p (by decide) (decodeDD_undefined rest h)
  · exact decode_of_page_error p (by decide) (decodeFD_undefined rest h)
  · exact decode_of_page_error p (by decide) (decodeDDCB_undefined d rest h)
  · exact decode_of_page_error p (by decide) (decodeFDCB_undefined d rest h)
  · rintro (⟨rfl, halt⟩ | ⟨hD, hio⟩)
    · have hD : ¬ ((0x76 : Byte) = 0xD3 ∨ (0x76 : Byte) = 0xDB) := by decide
      exact decode_of_decodeBase_error (fun _ => halt) (absurd · hD) (decodeBase_of_prefixByte rest (.inl rfl))
    · have h76 : op ≠ 0x76 := by rcases hD with rfl | rfl <;> decide
      exact decode_of_decodeBase_error (absurd · h76) (fun _ => hio) (decodeBase_of_prefixByte rest (.inr hD))

/-- The encoding of a well-formed instruction decodes to it, with nothing left. -/
theorem decode_encode {i : Instr} (h : WellFormed i) : decode (encode i) = .ok (i, []) := by
  simpa using decodeOfEncodeIsTheInstruction i [] h

/-- Settles O5: each word is the encoding of the instruction that the statement names. -/
theorem writtenOutWordsDecode : Obligations.WrittenOutWordsDecode :=
  ⟨decode_encode (i := .ldRN .a 0x7F) rfl, decode_encode (i := .ldIXmn 0x1234) rfl,
    decode_encode (i := .ldMmnSS 0x4000 .sp) rfl, decode_encode (i := .bitMhl 7) rfl,
    decode_encode (i := .bitMix 0 1) rfl, decode_encode (i := .ldMiyHL 0) rfl,
    decode_encode (i := .altd (.ldRN .b 1)) rfl, decode_encode (i := .ioi (.ldMmnA 0x0011)) rfl,
    decode_encode (i := .exDEaHLa) rfl, decode_encode (i := .lcall 0x7A 0xE000) rfl⟩

end Sys2Proof
end

section
/-!
PROOFS. Prefixes that a row does not use (spec/30_encoding.md R66, 00_scope.md R7): what they select is not read, and
their bytes only move PC, so the row does what it does without them, further on.
-/
namespace Sys2Proof.Machine

/-! ## What the prefixes select -/

/-- A row with an empty A column does the same with and without ALTD. -/
theorem runIn_alt_of_altdCol {i : Instr} (c : Ctx) (s : State) (b : Bool) (hb : i.isBase = true)
    (h : altdCol i = .empty) : runIn i { c with alt := b } s = runIn i c s := by
  cases i
  case altd | ioi | ioe => exact Bool.noConfusion hb
  all_goals cases h <;> rfl

/-- A row with an empty I column does the same with and without IOI or IOE. -/
theorem runIn_io_of_ioCol {i : Instr} (c : Ctx) (s : State) (io : Option IoSpace) (hb : i.isBase = true)
    (h : ioCol i = .empty) : runIn i { c with io := io } s = runIn i c s := by
  cases i
  case altd | ioi | ioe => exact Bool.noConfusion hb
  all_goals cases h <;> rfl

/-! ## The bytes of the prefixes -/

/-- The same selections, with one byte of prefixes more. -/
def Ctx.longer (c : Ctx) : Ctx := { c with plen := c.plen + 1 }

/-- The same state with another PC. -/
def State.withPc (s : State) (v : Word) : State := { s with pc := v }

namespace State
variable (s : State) (v : Word) (c : Ctx)

@[simp] theorem withPc_pc : (s.withPc v).pc = v := rfl

/-! The shared operations neither read nor write PC. -/

theorem setSS_withPc (x : Bool) (dd : SS) (w : Word) : (s.withPc v).setSS x dd w = (s.setSS x dd w).withPc v := by
  cases dd <;> rfl

theorem setZZ_withPc (x : Bool) (zz : ZZ) (w : Word) : (s.withPc v).setZZ x zz w = (s.setZZ x zz w).withPc v := by
  cases zz <;> rfl

theorem setDDa_withPc (dd : DDa) (w : Word) : (s.withPc v).setDDa dd w = (s.setDDa dd w).withPc v := by
  cases dd <;> rfl

theorem exchangeDEa_withPc (x : Bool) : (s.withPc v).exchangeDEa x = (s.exchangeDEa x).withPc v := by cases x <;> rfl

theorem exchangeDE_withPc (x : Bool) : (s.withPc v).exchangeDE x = (s.exchangeDE x).withPc v := by cases x <;> rfl

theorem afterRead_withPc (n : Nat) : (s.withPc v).afterRead c n = (s.afterRead c n).withPc v := by
  unfold afterRead
  cases c.io <;> rfl

theorem wrD8_withPc (a : Word) (w : Byte) : (s.withPc v).wrD8 c a w = (s.wrD8 c a w).withPc v := by
  unfold wrD8
  cases c.io <;> rfl

theorem wrD16_withPc (a w : Word) : (s.withPc v).wrD16 c a w = (s.wrD16 c a w).withPc v := by
  rw [wrD16, wrD8_withPc, wrD8_withPc]
  rfl

theorem loadR8_withPc (r : R8) (a : Word) : (s.withPc v).loadR8 c r a = (s.loadR8 c r a).withPc v := by
  rw [loadR8, afterRead_withPc]
  rfl

theorem loadSS_withPc (dd : SS) (a : Word) : (s.withPc v).loadSS c dd a = (s.loadSS c dd a).withPc v := by
  rw [loadSS, afterRead_withPc, setSS_withPc]
  rfl

theorem loadIX_withPc (a : Word) : (s.withPc v).loadIX c a = (s.loadIX c a).withPc v := by
  rw [loadIX, afterRead_withPc]
  rfl

theorem loadIY_withPc (a : Word) : (s.withPc v).loadIY c a = (s.loadIY c a).withPc v := by
  rw [loadIY, afterRead_withPc]
  rfl

theorem alu_withPc (op : AluOp) (x : Byte) : (s.withPc v).alu c op x = (s.alu c op x).withPc v := by cases op <;> rfl

theorem aluMem_withPc (op : AluOp) (a : Word) : (s.withPc v).aluMem c op a = (s.aluMem c op a).withPc v := by
  rw [aluMem, afterRead_withPc, alu_withPc]
  rfl

theorem bitMem_withPc (b : BitVec 3) (a : Word) : (s.withPc v).bitMem c b a = (s.bitMem c b a).withPc v := by
  rw [bitMem, afterRead_withPc]
  rfl

theorem rmw_withPc (a : Word) (g : Byte → Byte) : (s.withPc v).rmw c a g = (s.rmw c a g).withPc v := by
  rw [rmw, afterRead_withPc, wrD8_withPc]
  rfl

theorem incMem_withPc (a : Word) : (s.withPc v).incMem c a = (s.incMem c a).withPc v := by
  rw [incMem, rmw_withPc]
  rfl

theorem decMem_withPc (a : Word) : (s.withPc v).decMem c a = (s.decMem c a).withPc v := by
  rw [decMem, rmw_withPc]
  rfl

theorem shiftMem_withPc (op : ShiftOp) (a : Word) : (s.withPc v).shiftMem c op a = (s.shiftMem c op a).withPc v := by
  rw [shiftMem, rmw_withPc]
  rfl

theorem moveStep_withPc (dir : Dir) : (s.withPc v).moveStep c dir = (s.moveStep c dir).withPc v := by
  rw [moveStep, wrD8_withPc]
  rfl

theorem pushAfter_withPc (zz : ZZ) :
    ((s.withPc v).push16 ((s.withPc v).pushedZZ zz)).afterPush zz =
      ((s.push16 (s.pushedZZ zz)).afterPush zz).withPc v := by
  cases zz <;> rfl

/-! One byte of prefixes more, or PC one byte further on: the same `pcn`. -/

theorem pcn_longer (n : Nat) : s.pcn c.longer n = (s.withPc (s.pc + 1)).pcn c n := by
  show s.pc + BitVec.ofNat 16 (c.plen + 1 + n) = s.pc + 1 + BitVec.ofNat 16 (c.plen + n)
  rw [Nat.add_assoc, Nat.add_left_comm, BitVec.ofNat_add, BitVec.add_assoc]
  rfl

end State

section
variable {s x y : State} {c : Ctx} {n : Nat}

theorem State.advance_longer (hx : x.pc = s.pc) (hy : y = x.withPc (s.pc + 1)) :
    x.advance c.longer n = y.advance c n := by
  rw [hy, ← hx, advance, pcn_longer]
  rfl

theorem State.advancePriv_longer (hx : x.pc = s.pc) (hy : y = x.withPc (s.pc + 1)) :
    x.advancePriv c.longer n = y.advancePriv c n := by
  rw [hy, ← hx, advancePriv, pcn_longer]
  rfl

theorem State.branch_longer (take : Bool) {t u : Word} (hx : x.pc = s.pc) (hy : y = x.withPc (s.pc + 1)) (ht : t = u) :
    x.branch c.longer n take t = y.branch c n take u := by
  subst ht
  cases take
  · exact State.advance_longer hx hy
  · rw [hy]
    rfl

theorem State.retIf_longer (s : State) (c : Ctx) (n : Nat) (take : Bool) :
    s.retIf c.longer n take = (s.withPc (s.pc + 1)).retIf c n take := by
  cases take
  · exact State.advance_longer rfl rfl
  · rfl

end

/-- One byte of prefixes more that selects nothing only moves PC: the row does what it does without it one byte further
on. LDIR and LDDR are not such rows: they go back to the first byte (47_prefix_block.md R315). -/
theorem runIn_longer {i : Instr} (c : Ctx) (s : State) (hb : i.isBase = true) (hr : isRepeating i = false) :
    runIn i c.longer s = runIn i c (s.withPc (s.pc + 1)) := by
  cases i
  case altd | ioi | ioe => exact Bool.noConfusion hb
  case ldir | lddr => exact Bool.noConfusion hr
  case ldAMmn | ldAMbc | ldAMde | ldRMhl | ldRMix | ldRMiy =>
    exact State.advance_longer (by simp) (s.loadR8_withPc _ c _ _)
  case ldHLMmn | ldDDMmn | ldHLMhld | ldHLMix | ldHLMiy =>
    exact State.advance_longer (by simp) (s.loadSS_withPc _ c _ _)
  case ldIXMmn => exact State.advance_longer (by simp) (s.loadIX_withPc _ c _)
  case ldIYMmn => exact State.advance_longer (by simp) (s.loadIY_withPc _ c _)
  case ldMmnA | ldMbcA | ldMdeA | ldMhlN | ldMhlR | ldMixN | ldMixR | ldMiyN | ldMiyR =>
    exact State.advance_longer (by simp) (s.wrD8_withPc _ c _ _)
  case ldMmnHL | ldMmnIX | ldMmnIY | ldMmnSS | ldMhldHL | ldMixHL | ldMiyHL =>
    exact State.advance_longer (by simp) (s.wrD16_withPc _ c _ _)
  case adcMhl | adcMix | adcMiy | addMhl | addMix | addMiy | andMhl | andMix | andMiy | cpMhl | cpMix | cpMiy | orMhl
    | orMix | orMiy | sbcMhl | sbcMix | sbcMiy | subMhl | subMix | subMiy | xorMhl | xorMix | xorMiy =>
    exact State.advance_longer (by simp) (s.aluMem_withPc _ c _ _)
  case bitMhl => exact State.advancePriv_longer (by simp) (s.bitMem_withPc _ c _ _)
  case bitMix | bitMiy => exact State.advance_longer (by simp) (s.bitMem_withPc _ c _ _)
  case resMhl | resMix | resMiy | setMhl | setMix | setMiy =>
    exact State.advance_longer (by simp) (s.rmw_withPc _ c _ _)
  case incMhl | incMix | incMiy => exact State.advance_longer (by simp) (s.incMem_withPc _ c _)
  case decMhl | decMix | decMiy => exact State.advance_longer (by simp) (s.decMem_withPc _ c _)
  case rlMhl | rlMix | rlMiy | rlcMhl | rlcMix | rlcMiy | rrMhl | rrMix | rrMiy | rrcMhl | rrcMix | rrcMiy | slaMhl
    | slaMix | slaMiy | sraMhl | sraMix | sraMiy | srlMhl | srlMix | srlMiy =>
    exact State.advance_longer (by simp) (s.shiftMem_withPc _ c _ _)
  case ldi | ldd => exact State.advance_longer (by simp) (s.moveStep_withPc _ c _)
  case ldDDmn | incSS | decSS => exact State.advance_longer (by simp) (s.setSS_withPc _ _ _ _)
  case ldDDaBC | ldDDaDE => exact State.advance_longer (by simp) (s.setDDa_withPc _ _ _)
  case exDEaHL => exact State.advance_longer (by simp) (s.exchangeDEa_withPc _ _)
  case exDEHL => exact State.advance_longer (by simp) (s.exchangeDE_withPc _ _)
  case popZZ zz =>
    exact State.advance_longer (by simp) (congrArg (fun t : State => t.setSP (s.sp + 2)) (s.setZZ_withPc _ _ zz _))
  case pushZZ zz => exact State.advance_longer (by simp) (s.pushAfter_withPc _ zz)
  case callMn mn => exact congrArg (fun w => (s.push16 w).jump mn) (s.pcn_longer c 3)
  case rst v => exact congrArg (fun w => (s.push16 w).jump (s.rstTarget v)) (s.pcn_longer c 1)
  case lcall x mn => exact congrArg (fun w => (((s.push8 s.xpc).push16 w).setXPC x).jump mn) (s.pcn_longer c 4)
  case jrE e => exact congrArg (fun w => s.jump (w + sext e)) (s.pcn_longer c 2)
  case djnz | jrCC => exact State.branch_longer _ rfl rfl (by rw [State.pcn_longer])
  case jpF => exact State.branch_longer _ rfl rfl rfl
  case jpHL | jpIX | jpIY | jpMn | ljp | lret | ret | reti => rfl
  case retF => exact s.retIf_longer c _ _
  case ldXPCA | ldSPHL | ldSPIX | ldSPIY | popIP | ipset0 | ipset1 | ipset2 | ipset3 | ipres =>
    exact State.advancePriv_longer rfl rfl
  all_goals exact State.advance_longer (s := s) rfl rfl

/-! ## The statement -/

theorem Pfx.ctx_of_hasAlt {p : Pfx} (h : p.hasAlt = true) : p.ctx = { p.noAlt.ctx.longer with alt := true } := by
  cases p
  case none | ioi | ioe => exact Bool.noConfusion h
  all_goals rfl

theorem Pfx.ctx_of_io {p : Pfx} (h : p.io ≠ none) : p.ctx = { p.noIo.ctx.longer with io := p.io } := by
  cases p
  case none | altd => exact absurd rfl h
  all_goals rfl

/-- LDIR and LDDR have a letter in the I column. -/
theorem not_isRepeating_of_ioCol {i : Instr} (h : ioCol i = .empty) : isRepeating i = false := by
  cases i
  case ldir | lddr => nomatch h
  all_goals rfl

/-- Settles O16: the row does not read what ALTD, or IOI and IOE, select, and their byte only moves PC. -/
theorem prefixWithoutALetterHasNoEffect : Obligations.PrefixWithoutALetterHasNoEffect := by
  intro p i s hb
  constructor
  · intro hcol hr hp
    rw [exec_wrap, exec_wrap, Pfx.ctx_of_hasAlt hp, runIn_alt_of_altdCol _ s true hb hcol, runIn_longer _ s hb hr]
    rfl
  · intro hcol hio
    rw [exec_wrap, exec_wrap, Pfx.ctx_of_io hio, runIn_io_of_ioCol _ s p.io hb hcol,
      runIn_longer _ s hb (not_isRepeating_of_ioCol hcol)]
    rfl

end Sys2Proof.Machine
end

section
/-!
PROOFS. The loads and stores of the families 40 and 41 (spec/40_load_immediate_direct.md, 41_load_indexed.md):
constants, loads whose source and stores whose destination an I/O prefix moves. A row is one shared operation and PC
moved past the instruction, so each operation has one lemma that its rows cite.
-/
namespace Sys2Proof.Machine

/-! ## From a shared operation to what a row runs to -/

section
variable {p : Pfx} {i : Instr} {s x : State} {len : Nat}

/-- A row that makes the state `x`, PC not yet moved, and goes to the next instruction. -/
theorem runs_of_advance (h : runIn i p.ctx s = x.advance p.ctx len) (hpc : x.pc = s.pc) : Runs p i s x len :=
  runs_of_runIn (by rw [h, ← hpc]; rfl)

theorem runs_of_loadR8 {r : R8} {a : Word} (h : runIn i p.ctx s = (s.loadR8 p.ctx r a).advance p.ctx len) :
    Runs p i s ((s.afterRead p.ctx 1).updBank p.hasAlt fun k => k.set r (s.rdS8 p.ctx a)) len :=
  runs_of_advance h (State.loadR8_pc s p.ctx r a)

theorem runs_of_loadSS {dd : SS} {a : Word} (h : runIn i p.ctx s = (s.loadSS p.ctx dd a).advance p.ctx len) :
    Runs p i s ((s.afterRead p.ctx 2).setSS p.hasAlt dd (s.rdS16 p.ctx a)) len :=
  runs_of_advance h (State.loadSS_pc s p.ctx dd a)

theorem runs_of_wrD8 {a : Word} {v : Byte} (h : runIn i p.ctx s = (s.wrD8 p.ctx a v).advance p.ctx len) :
    Runs p i s (s.wrD8 p.ctx a v) len :=
  runs_of_advance h (State.wrD8_pc s p.ctx a v)

theorem runs_of_wrD16 {a v : Word} (h : runIn i p.ctx s = (s.wrD16 p.ctx a v).advance p.ctx len) :
    Runs p i s ((s.wrD8 p.ctx a (loByte v)).wrD8 p.ctx (a + 1) (hiByte v)) len :=
  runs_of_advance h (State.wrD16_pc s p.ctx a v)

end

/-! ## What `RdS` answers -/

section
variable (s : State) {c : Ctx}

theorem State.rdS8_of_io_none (h : c.io = none) (a : Word) : s.rdS8 c a = s.mem8 a := by
  rw [State.rdS8, h]

theorem State.rdS16_of_io_none (h : c.io = none) (a : Word) : s.rdS16 c a = s.mem16 a := by
  rw [State.rdS16, h]

theorem State.afterRead_of_io_none (h : c.io = none) (n : Nat) : s.afterRead c n = s := by
  rw [State.afterRead, h]

variable {sp : IoSpace}

theorem State.rdS8_of_io_some (h : c.io = some sp) (a : Word) :
    s.rdS8 c a = Config.ioRead sp a s.ioWrites s.ioReads := by
  rw [State.rdS8, h]

/-- The low byte is the earlier of the two reads (20_memory.md R48, log 29). -/
theorem State.rdS16_of_io_some (h : c.io = some sp) (a : Word) :
    s.rdS16 c a =
      mkWord (Config.ioRead sp (a + 1) s.ioWrites (s.ioReads + 1)) (Config.ioRead sp a s.ioWrites s.ioReads) := by
  rw [State.rdS16, h]

theorem State.afterRead_of_io_some (h : c.io = some sp) (n : Nat) : s.afterRead c n = s.countReads n := by
  rw [State.afterRead, h]

end

/-! ## The statements -/

/-- Settles O23: each row writes its destination, the set that ALTD selects where it has `r`, and moves PC. -/
theorem loadConstants : Obligations.LoadConstants := by
  intro p s mn r n
  have hdd (dd : SS) : Runs p (.ldDDmn dd mn) s (s.setSS p.hasAlt dd mn) 3 :=
    runs_of_advance (runIn_ldDDmn p.ctx s dd mn) (s.setSS_pc p.hasAlt dd mn)
  exact ⟨runs_of_advance (runIn_ldIXmn _ s mn) (s.setIX_pc mn), runs_of_advance (runIn_ldIYmn _ s mn) (s.setIY_pc mn),
    hdd .bc, hdd .de, hdd .hl, hdd .sp, runs_of_advance (runIn_ldRN _ s r n) (s.updBank_pc p.hasAlt _)⟩

/-- Settles O24: the operand is what `RdS` answers in the space that the prefixes select, and each row is one load of
it into a register, a pair or an index register. -/
theorem loadsFromAMemoryOperand : Obligations.LoadsFromAMemoryOperand := by
  intro p s mn r d
  have hdd (dd : SS) : Runs p (.ldDDMmn dd mn) s ((s.afterRead p.ctx 2).setSS p.hasAlt dd (s.rdS16 p.ctx mn)) 4 :=
    runs_of_loadSS (runIn_ldDDMmn p.ctx s dd mn)
  refine ⟨?memory, ?io, ?rows⟩
  case memory => exact fun h a => ⟨s.rdS8_of_io_none h a, s.rdS16_of_io_none h a, s.afterRead_of_io_none h⟩
  case io => exact fun _ h a => ⟨s.rdS8_of_io_some h a, s.rdS16_of_io_some h a, s.afterRead_of_io_some h⟩
  case rows =>
    exact ⟨runs_of_loadR8 (runIn_ldAMmn _ s mn), runs_of_loadR8 (runIn_ldAMbc _ s), runs_of_loadR8 (runIn_ldAMde _ s),
      runs_of_loadR8 (runIn_ldRMhl _ s r), runs_of_loadR8 (runIn_ldRMix _ s r d),
      runs_of_loadR8 (runIn_ldRMiy _ s r d), runs_of_loadSS (runIn_ldHLMmn _ s mn), hdd .bc, hdd .de, hdd .hl,
      runs_of_loadSS (runIn_ldHLMhld _ s d), runs_of_loadSS (runIn_ldHLMix _ s d),
      runs_of_loadSS (runIn_ldHLMiy _ s d), hdd .sp, runs_of_advance (runIn_ldIXMmn _ s mn) (s.loadIX_pc p.ctx mn),
      runs_of_advance (runIn_ldIYMmn _ s mn) (s.loadIY_pc p.ctx mn)⟩

/-- Settles O25: each row is one `WrD` of a byte at its effective address. -/
theorem storesOfOneByte : Obligations.StoresOfOneByte := by
  intro p s mn r d n
  exact ⟨runs_of_wrD8 (runIn_ldMmnA _ s mn), runs_of_wrD8 (runIn_ldMbcA _ s), runs_of_wrD8 (runIn_ldMdeA _ s),
    runs_of_wrD8 (runIn_ldMhlN _ s n), runs_of_wrD8 (runIn_ldMhlR _ s r), runs_of_wrD8 (runIn_ldMixN _ s d n),
    runs_of_wrD8 (runIn_ldMixR _ s d r), runs_of_wrD8 (runIn_ldMiyN _ s d n), runs_of_wrD8 (runIn_ldMiyR _ s d r)⟩

/-- Settles O26: each row is one `WrD` of a word, its low byte first (20_memory.md R41, R48). -/
theorem storesOfAWord : Obligations.StoresOfAWord := by
  intro p s mn d ss
  exact ⟨runs_of_wrD16 (runIn_ldMmnHL _ s mn), runs_of_wrD16 (runIn_ldMmnIX _ s mn),
    runs_of_wrD16 (runIn_ldMmnIY _ s mn), runs_of_wrD16 (runIn_ldMmnSS _ s mn ss),
    runs_of_wrD16 (runIn_ldMhldHL _ s d), runs_of_wrD16 (runIn_ldMixHL _ s d), runs_of_wrD16 (runIn_ldMiyHL _ s d)⟩

end Sys2Proof.Machine
end

section
/-!
PROOFS. The loads and stores at (SP+n) (spec/41_load_indexed.md R129 to R134): they use memory and not the operand's
space (20_memory.md R45), so what each row runs to does not name the context of the I/O prefixes.
-/
namespace Sys2Proof.Machine

/-- A row that stores a word in memory, whatever its prefixes are: its low byte first (20_memory.md R41). -/
theorem runs_of_wrMem16 {p : Pfx} {i : Instr} {s : State} {len : Nat} {a v : Word}
    (h : runIn i p.ctx s = (s.wrMem16 a v).advance p.ctx len) :
    Runs p i s ((s.wrMem8 a (loByte v)).wrMem8 (a + 1) (hiByte v)) len :=
  runs_of_advance h (State.wrMem16_pc s a v)

/-- Settles O27: a store is one write of a word at `eaSP`; a load writes its destination, for HL in the set that ALTD
selects, with the word there. -/
theorem stackRelativeLoadsAndStores : Obligations.StackRelativeLoadsAndStores := by
  intro p s n
  refine ⟨?storeHL, ?storeIX, ?storeIY, ?loadHL, ?loadIX, ?loadIY⟩
  case storeHL => exact runs_of_wrMem16 (runIn_ldMspHL p.ctx s n)
  case storeIX => exact runs_of_wrMem16 (runIn_ldMspIX p.ctx s n)
  case storeIY => exact runs_of_wrMem16 (runIn_ldMspIY p.ctx s n)
  case loadHL => exact runs_of_advance (runIn_ldHLMsp p.ctx s n) (s.setSS_pc p.hasAlt .hl _)
  case loadIX => exact runs_of_advance (runIn_ldIXMsp p.ctx s n) (s.setIX_pc _)
  case loadIY => exact runs_of_advance (runIn_ldIYMsp p.ctx s n) (s.setIY_pc _)

end Sys2Proof.Machine
end

section
/-!
PROOFS. The register moves and the exchanges (spec/42_move_exchange_stack.md R151 to R175). A pair is the word of its
two halves, so writing one pair from another moves both halves.
-/
namespace Sys2Proof.Machine

/-! ## A pair written with the word of two bytes -/

section
variable (k : Bank) (hi lo : Byte)

@[simp] theorem Bank.setBC_mkWord : k.setBC (mkWord hi lo) = { k with b := hi, c := lo } := by simp [Bank.setBC]
@[simp] theorem Bank.setDE_mkWord : k.setDE (mkWord hi lo) = { k with d := hi, e := lo } := by simp [Bank.setDE]
@[simp] theorem Bank.setHL_mkWord : k.setHL (mkWord hi lo) = { k with h := hi, l := lo } := by simp [Bank.setHL]
@[simp] theorem Bank.setAF_mkWord : k.setAF (mkWord hi lo) = { k with a := hi, f := lo } := by simp [Bank.setAF]

end

/-! ## The moves -/

section
variable {p : Pfx} {i : Instr} {s x : State} {len : Nat}

/-- As `runs_of_advance`, for a privileged row. -/
theorem runsPrivileged_of_advancePriv (h : runIn i p.ctx s = x.advancePriv p.ctx len) (hpc : x.pc = s.pc) :
    RunsPrivileged p i s x len :=
  runsPrivileged_of_runIn (by rw [h, ← hpc]; rfl)

/-- A row that moves `v` to A, with S and Z from it: L/V and C of the register that the flags go to are kept. -/
theorem runsWithFlags_of_moveToA {v : Byte}
    (h : runIn i p.ctx s = ((s.setR8 p.hasAlt .a v).setFlags p.hasAlt (flagsSZ v)).advance p.ctx len) :
    RunsWithFlags p i s (s.updBank p.hasAlt fun k => { k with a := v }) len v.msb (decide (v = 0)) (s.oldLV p)
      (s.oldC p) :=
  runsWithFlags_of_setFlags (flagsSZ v) h (s.bank_setR8_f p.hasAlt .a v) rfl rfl rfl rfl rfl

end

/-- Settles O29: each row is one register write, in the set that ALTD selects where the row has `r` or `fr`, and in the
alternate set for the rows of `dd'`. -/
theorem registerMoves : Obligations.RegisterMoves := by
  intro p s r g
  have hBC (dd : DDa) : Runs p (.ldDDaBC dd) s (s.setDDa dd s.bc) 2 :=
    runs_of_advance (runIn_ldDDaBC p.ctx s dd) (s.setDDa_pc dd s.bc)
  have hDE (dd : DDa) : Runs p (.ldDDaDE dd) s (s.setDDa dd s.de) 2 :=
    runs_of_advance (runIn_ldDDaDE p.ctx s dd) (s.setDDa_pc dd s.de)
  exact ⟨runs_of_advance (runIn_ldRG _ s r g) (s.setR8_pc p.hasAlt r _),
    runs_of_advance (runIn_ldAXPC _ s) (s.setR8_pc p.hasAlt .a _), runs_of_advance (runIn_ldIIRA _ s) (s.setIIR_pc _),
    runsWithFlags_of_moveToA (runIn_ldAIIR _ s), runsWithFlags_of_moveToA (runIn_ldAEIR _ s),
    runs_of_advance (runIn_ldHLIX _ s) (s.setSS_pc p.hasAlt .hl _),
    runs_of_advance (runIn_ldHLIY _ s) (s.setSS_pc p.hasAlt .hl _), runs_of_advance (runIn_ldIXHL _ s) (s.setIX_pc _),
    runs_of_advance (runIn_ldIYHL _ s) (s.setIY_pc _), hBC .bc, hBC .de, hBC .hl, hDE .bc, hDE .de, hDE .hl⟩

/-- Settles O31: each row is one register write, and it ends as a privileged row. -/
theorem privilegedLoadsOfSpAndXpc : Obligations.PrivilegedLoadsOfSpAndXpc := by
  intro p s
  exact ⟨runsPrivileged_of_advancePriv (runIn_ldSPHL _ s) (s.setSP_pc _),
    runsPrivileged_of_advancePriv (runIn_ldSPIX _ s) (s.setSP_pc _),
    runsPrivileged_of_advancePriv (runIn_ldSPIY _ s) (s.setSP_pc _),
    runsPrivileged_of_advancePriv (runIn_ldXPCA _ s) (s.setXPC_pc _)⟩

/-! ## The exchanges -/

section
variable (s : State)

/-- AF and AF' change places: F as a whole, the bits without a flag too (42_move_exchange_stack.md R170, log 12). -/
theorem State.exchangeAF_eq :
    (s.setZZ false .af s.alt.af).setZZ true .af s.main.af =
      { s with
        main := { s.main with a := s.alt.a, f := s.alt.f }
        alt := { s.alt with a := s.main.a, f := s.main.f } } := by
  simp [State.setZZ, State.updBank, Bank.af]

/-- The general registers of the two sets change places; A and F stay (42_move_exchange_stack.md R175). -/
theorem State.exchangeGeneral_eq :
    s.exchangeGeneral =
      { s with
        main := { s.alt with a := s.main.a, f := s.main.f }
        alt := { s.main with a := s.alt.a, f := s.alt.f } } := by
  simp [State.exchangeGeneral, State.updBank, Bank.bc, Bank.de, Bank.hl]

theorem State.exchangeDEa_false :
    s.exchangeDEa false = { s with alt := s.alt.setDE s.main.hl, main := s.main.setHL s.alt.de } := rfl
theorem State.exchangeDEa_true :
    s.exchangeDEa true = { s with alt := (s.alt.setDE s.alt.hl).setHL s.alt.de } := rfl
theorem State.exchangeDE_false :
    s.exchangeDE false = { s with main := (s.main.setDE s.main.hl).setHL s.main.de } := rfl
theorem State.exchangeDE_true :
    s.exchangeDE true = { s with main := s.main.setDE s.alt.hl, alt := s.alt.setHL s.main.de } := rfl

end

/-- `EX DE',HL` exchanges as ALTD says (42_move_exchange_stack.md R171). -/
theorem runs_exDEaHL {p : Pfx} {s : State} {b : Bool} (hb : p.hasAlt = b) : Runs p .exDEaHL s (s.exchangeDEa b) 1 :=
  runs_of_advance (by rw [runIn_exDEaHL, Pfx.ctx_alt, hb]) (s.exchangeDEa_pc b)

/-- `EX DE,HL` exchanges as ALTD says (42_move_exchange_stack.md R173). -/
theorem runs_exDEHL {p : Pfx} {s : State} {b : Bool} (hb : p.hasAlt = b) : Runs p .exDEHL s (s.exchangeDE b) 1 :=
  runs_of_advance (by rw [runIn_exDEHL, Pfx.ctx_alt, hb]) (s.exchangeDE_pc b)

/-- Settles O32: the register exchanges are the equations above; an exchange with the stack stores the register at SP
and loads the word that was there. -/
theorem exchanges : Obligations.Exchanges := by
  intro p s
  refine ⟨?exAF, ?exx, ?exDEaHL, ?exDEaHL_altd, ?exDEaHLa, ?exDEHL, ?exDEHL_altd, ?exDEHLa, ?exMspHL, ?exMspIX,
    ?exMspIY⟩
  case exAF => exact runs_of_advance (by rw [runIn_exAF, s.exchangeAF_eq]) rfl
  case exx => exact runs_of_advance (by rw [runIn_exx, s.exchangeGeneral_eq]) rfl
  case exDEaHL => exact fun h => s.exchangeDEa_false ▸ runs_exDEaHL h
  case exDEaHL_altd => exact fun h => s.exchangeDEa_true ▸ runs_exDEaHL h
  case exDEaHLa => exact runs_of_advance (runIn_exDEaHLa _ s) (s.exchangeDEa_pc true)
  case exDEHL => exact fun h => s.exchangeDE_false ▸ runs_exDEHL h
  case exDEHL_altd => exact fun h => s.exchangeDE_true ▸ runs_exDEHL h
  case exDEHLa => exact runs_of_advance (runIn_exDEHLa _ s) (s.exchangeDE_pc true)
  case exMspHL => exact runs_of_advance (runIn_exMspHL _ s) (State.setSS_pc _ p.hasAlt .hl _)
  case exMspIX => exact runs_of_advance (runIn_exMspIX _ s) (State.setIX_pc _ _)
  case exMspIY => exact runs_of_advance (runIn_exMspIY _ s) (State.setIY_pc _ _)

end Sys2Proof.Machine
end

section
/-!
PROOFS. The stack (spec/42_move_exchange_stack.md R176 to R184): what a push stores, what a pop loads, and that a pop
after a push brings the word back.
-/
namespace Sys2Proof.Machine

/-! ## The byte that `PUSH AF` stores for F -/

/-- Two flag registers hold the same four flags; their other bits are free (10_state.md R17, log 12). -/
def SameFlags (f g : Byte) : Prop :=
  flagS f = flagS g ∧ flagZ f = flagZ g ∧ flagLV f = flagLV g ∧ flagC f = flagC g

theorem SameFlags.refl (f : Byte) : SameFlags f f := ⟨rfl, rfl, rfl, rfl⟩

theorem pushedFlags_getLsbD (f draw : Byte) {k : Nat} (hk : Config.flagMask.getLsbD k = true) :
    (pushedFlags f draw).getLsbD k = f.getLsbD k := by
  simp [pushedFlags, hk]

theorem pushedFlags_sameFlags (f draw : Byte) : SameFlags (pushedFlags f draw) f :=
  ⟨pushedFlags_getLsbD f draw (by decide), pushedFlags_getLsbD f draw (by decide),
    pushedFlags_getLsbD f draw (by decide), pushedFlags_getLsbD f draw (by decide)⟩

/-! ## Pushes -/

section
variable {p : Pfx} {i : Instr} {s : State} {len : Nat}

theorem runs_of_push16 {v : Word} (h : runIn i p.ctx s = (s.push16 v).advance p.ctx len) :
    Runs p i s { (s.wrMem8 (s.sp - 1) (hiByte v)).wrMem8 (s.sp - 2) (loByte v) with sp := s.sp - 2 } len :=
  runs_of_advance h (s.push16_pc v)

/-- A push of the word of two bytes stores these bytes. -/
theorem State.push16_mkWord (s : State) (hi lo : Byte) :
    s.push16 (mkWord hi lo) = { (s.wrMem8 (s.sp - 1) hi).wrMem8 (s.sp - 2) lo with sp := s.sp - 2 } := by
  rw [State.push16, hiByte_mkWord, loByte_mkWord]
  rfl

/-- `PUSH AF` also counts the draw of the bits without a flag. -/
theorem runs_pushAF :
    Runs p (.pushZZ .af) s
      { (s.wrMem8 (s.sp - 1) s.main.a).wrMem8 (s.sp - 2) (pushedFlags s.main.f (Config.unusedFBits s.draws)) with
        sp := s.sp - 2
        draws := s.draws + 1 } 1 :=
  runs_of_advance (by rw [runIn_pushZZ, State.pushedZZ, State.push16_mkWord]; rfl) rfl

end

/-- Settles O33: each row is one push of its register; the byte stored for F has its flags. -/
theorem pushesStoreBelowTheStackPointer : Obligations.PushesStoreBelowTheStackPointer := by
  intro p s
  obtain ⟨hS, hZ, hLV, hC⟩ := pushedFlags_sameFlags s.main.f (Config.unusedFBits s.draws)
  exact ⟨runs_of_push16 (runIn_pushZZ _ s .bc), runs_of_push16 (runIn_pushZZ _ s .de),
    runs_of_push16 (runIn_pushZZ _ s .hl), runs_of_push16 (runIn_pushIX _ s), runs_of_push16 (runIn_pushIY _ s),
    _, hS, hZ, hLV, hC, runs_pushAF⟩

/-! ## Pops -/

/-- `POP zz`, once it is known how the word at SP changes a register set. -/
theorem runs_popZZ {p : Pfx} {s : State} {zz : ZZ} {g : Bank → Bank}
    (h : s.setZZ p.hasAlt zz (s.mem16 s.sp) = s.updBank p.hasAlt g) :
    Runs p (.popZZ zz) s { s.updBank p.hasAlt g with sp := s.sp + 2 } 1 :=
  runs_of_advance (by rw [runIn_popZZ, Pfx.ctx_alt, h]; rfl) rfl

/-- Settles O34: each row writes the two halves of its destination with the bytes at SP+1 and SP. -/
theorem popsLoadFromTheStackPointer : Obligations.PopsLoadFromTheStackPointer := by
  intro p s hi lo
  have hbank {f g : Bank → Bank} (h : ∀ k, f k = g k) : s.updBank p.hasAlt f = s.updBank p.hasAlt g :=
    congrArg (s.updBank p.hasAlt) (funext h)
  exact ⟨runs_popZZ (hbank fun k => k.setBC_mkWord hi lo), runs_popZZ (hbank fun k => k.setDE_mkWord hi lo),
    runs_popZZ (hbank fun k => k.setHL_mkWord hi lo), runs_popZZ (hbank fun k => k.setAF_mkWord hi lo),
    runs_of_advance (runIn_popIX _ s) rfl, runs_of_advance (runIn_popIY _ s) rfl⟩

/-! ## A pop after a push -/

section
variable {s t : State}

/-- Whatever came after the push left the stack, SP and the translation alone: the word at SP is the one pushed. -/
theorem State.mem16_sp_of_push16 {v : Word} (h : s.phys (s.sp - 1) ≠ s.phys (s.sp - 2))
    (hm : t.mem = (s.push16 v).mem) (ht : t.translation = s.translation) (hx : t.xpc = s.xpc)
    (hw : t.ioWrites = s.ioWrites) (hsp : t.sp = s.sp - 2) : t.mem16 t.sp = v := by
  rw [hsp, State.mem16_congr hm (by simpa using ht) (by simpa using hx) (by simpa using hw), State.push16_mem16 _ _ h]

/-- The word that `PUSH zz` stores, put into `zz` again: the register set is as before, but for the bits of F without a
flag. -/
theorem State.setZZ_pushedZZ_main (ht : t.main = s.main) (zz : ZZ) :
    ∃ f, SameFlags f s.main.f ∧ (t.setZZ false zz (s.pushedZZ zz)).main = { s.main with f := f } := by
  cases zz
  case bc => exact ⟨_, SameFlags.refl _, (congrArg (·.setBC s.bc) ht).trans (s.main.setBC_mkWord _ _)⟩
  case de => exact ⟨_, SameFlags.refl _, (congrArg (·.setDE s.de) ht).trans (s.main.setDE_mkWord _ _)⟩
  case hl => exact ⟨_, SameFlags.refl _, (congrArg (·.setHL s.hl) ht).trans (s.main.setHL_mkWord _ _)⟩
  case af =>
    exact ⟨_, pushedFlags_sameFlags _ _, (congrArg (·.setAF (s.pushedZZ .af)) ht).trans (s.main.setAF_mkWord _ _)⟩

end

section
variable (s : State) (c : Ctx) (h : s.phys (s.sp - 1) ≠ s.phys (s.sp - 2))
include h

/-- The word on the stack after `PUSH zz`. -/
theorem mem16_sp_runIn_pushZZ (zz : ZZ) :
    (runIn (.pushZZ zz) c s).mem16 (runIn (.pushZZ zz) c s).sp = s.pushedZZ zz :=
  State.mem16_sp_of_push16 h (by simp) (by simp) (by simp) (by simp) (by simp)

/-- The word on the stack after `PUSH IX`. -/
theorem mem16_sp_runIn_pushIX : (runIn .pushIX c s).mem16 (runIn .pushIX c s).sp = s.ix :=
  State.mem16_sp_of_push16 h (by simp) (by simp) (by simp) (by simp) (by simp)

/-- The main set after `PUSH zz` and `POP zz`. -/
theorem runIn_popZZ_pushZZ_main (zz : ZZ) :
    ∃ f, SameFlags f s.main.f ∧
      (runIn (.popZZ zz) Ctx.bare (runIn (.pushZZ zz) c s)).main = { s.main with f := f } := by
  have hmain : (runIn (.pushZZ zz) c s).main = s.main := by simp
  rw [runIn_popZZ, mem16_sp_runIn_pushZZ s c h zz]
  exact State.setZZ_pushedZZ_main hmain zz

end

/-- Settles O35: the word that the pop finds at SP is the one the push stored, and SP goes down by 2 and up again. -/
theorem popUndoesPush : Obligations.PopUndoesPush := by
  intro s zz h
  have hsp : s.sp - 2 + 2 = s.sp := BitVec.sub_add_cancel _ _
  refine ⟨⟨_, _, exec_eq_runIn _ s, exec_eq_runIn _ _, by simp, ?_⟩,
    ⟨_, _, exec_eq_runIn _ s, exec_eq_runIn _ _, mem16_sp_runIn_pushZZ s _ h .hl, hsp⟩,
    ⟨_, _, exec_eq_runIn _ s, exec_eq_runIn _ _, mem16_sp_runIn_pushIX s _ h, hsp⟩⟩
  obtain ⟨f, ⟨hS, hZ, hLV, hC⟩, hmain⟩ := runIn_popZZ_pushZZ_main s Ctx.bare h zz
  rw [State.bc, State.de, State.hl, hmain]
  exact ⟨rfl, rfl, rfl, rfl, hS, hZ, hLV, hC⟩

/-! ## ADD SP,d -/

/-- Settles O36: the displacement is sign-extended (D16), and C is the carry of the 16-bit sum (D17). -/
theorem addToTheStackPointer : Obligations.AddToTheStackPointer := by
  intro p s d
  have hsum : sumRes s.sp (Config.spDisplacement d) false = s.sp + d.signExtend 16 := sumRes_false _ _
  have hcarry : sumCarry s.sp (Config.spDisplacement d) false =
      decide (65536 ≤ s.sp.toNat + (d.signExtend 16).toNat) := rfl
  have hrun := runIn_addSPd p.ctx s d
  rw [hsum, hcarry] at hrun
  exact runsWithFlags_of_setFlags _ hrun rfl rfl rfl rfl rfl rfl

end Sys2Proof.Machine
end

section
/-!
PROOFS. The flag rows of the 16-bit operations (spec/43_arith16.md R185): a row that writes one register and then flags
runs with the flags of its kind of update. Each kind has one lemma, which the rows of that kind cite.
-/
namespace Sys2Proof.Machine

/-! ## The registers that the rows write -/

/-- F, F' and PC are the same in both states: what a row does before it writes its flags and moves PC. -/
structure KeepsFAndPc (s t : State) : Prop where
  /-- F and F' are the same. -/
  f : KeepsF s t
  /-- PC is the same. -/
  pc : t.pc = s.pc

section
variable {s : State} {b : Bool} {v : Word}

theorem KeepsFAndPc.setSS (dd : SS) : KeepsFAndPc s (s.setSS b dd v) := ⟨⟨by simp, by simp⟩, by simp⟩
theorem KeepsFAndPc.setIX : KeepsFAndPc s (s.setIX v) := ⟨⟨rfl, rfl⟩, rfl⟩
theorem KeepsFAndPc.setIY : KeepsFAndPc s (s.setIY v) := ⟨⟨rfl, rfl⟩, rfl⟩

end

/-! ## The kinds of flag update -/

section
variable {p : Pfx} {i : Instr} {s x : State} {len : Nat} {a b : Word} {cin : Bool} (hx : KeepsFAndPc s x)
include hx

/-- Only C is written, with the carry of a sum. -/
theorem runsWithFlags_of_sumCarry
    (h : runIn i p.ctx s = (x.setFlags p.hasAlt { c := some (sumCarry a b false) }).advance p.ctx len) :
    RunsWithFlags p i s x len (s.oldS p) (s.oldZ p) (s.oldLV p) (decide (65536 ≤ a.toNat + b.toNat)) :=
  runsWithFlags_of_setFlags _ h (hx.f.bank_f _) hx.pc rfl rfl rfl rfl

/-- All four flags of a sum: C is the carry, L/V the signed overflow. -/
theorem runsWithFlags_of_flagsAdd
    (h : runIn i p.ctx s = (x.setFlags p.hasAlt (flagsAdd a b cin)).advance p.ctx len) :
    RunsWithFlags p i s x len (sumRes a b cin).msb (decide (sumRes a b cin = 0))
      (overflows 16 (a.toInt + b.toInt + cin.toNat)) (decide (65536 ≤ a.toNat + b.toNat + cin.toNat)) :=
  runsWithFlags_of_setFlags _ h (hx.f.bank_f _) hx.pc rfl rfl (sumOv_eq16 a b cin) rfl

/-- All four flags of a difference: C is the borrow, L/V the signed overflow (43_arith16.md R211). -/
theorem runsWithFlags_of_flagsSub
    (h : runIn i p.ctx s = (x.setFlags p.hasAlt (flagsSub a b cin)).advance p.ctx len) :
    RunsWithFlags p i s x len (diffRes a b cin).msb (decide (diffRes a b cin = 0))
      (overflows 16 (a.toInt - b.toInt - cin.toNat)) (decide (a.toNat < b.toNat + cin.toNat)) :=
  runsWithFlags_of_setFlags _ h (hx.f.bank_f _) hx.pc rfl rfl (diffOv_eq16 a b cin) rfl

/-- The flags of a logical result or of a rotate, with the carry that the row gives. -/
theorem runsWithFlags_of_flagsLogic {cy : Bool}
    (h : runIn i p.ctx s = (x.setFlags p.hasAlt (flagsLogic a cy)).advance p.ctx len) :
    RunsWithFlags p i s x len a.msb (decide (a = 0)) (highNibble16 a) cy :=
  runsWithFlags_of_setFlags _ h (hx.f.bank_f _) hx.pc rfl rfl (logical_eq16 a) rfl

/-- The flags of `BOOL`, from the register before it (43_arith16.md R193). -/
theorem runsWithFlags_of_flagsBool
    (h : runIn i p.ctx s = (x.setFlags p.hasAlt (flagsBool a)).advance p.ctx len) :
    RunsWithFlags p i s x len false (decide (a = 0)) false false :=
  runsWithFlags_of_setFlags _ h (hx.f.bank_f _) hx.pc rfl rfl rfl rfl

/-- `RL` of a word through the carry: bit 15 goes out (43_arith16.md R206). -/
theorem runsWithFlags_of_rl16
    (h : runIn i p.ctx s = (x.setFlags p.hasAlt (flagsShift .rl a cin)).advance p.ctx len) :
    let res : Word := a.extractLsb' 0 15 ++ BitVec.ofBool cin
    RunsWithFlags p i s x len res.msb (decide (res = 0)) (highNibble16 res) (a.getLsbD 15) :=
  shiftRes_rl16 a cin ▸ runsWithFlags_of_flagsLogic hx h

/-- `RR` of a word through the carry: bit 0 goes out (43_arith16.md R207 to R210). -/
theorem runsWithFlags_of_rr16
    (h : runIn i p.ctx s = (x.setFlags p.hasAlt (flagsShift .rr a cin)).advance p.ctx len) :
    let res : Word := BitVec.ofBool cin ++ a.extractLsb' 1 15
    RunsWithFlags p i s x len res.msb (decide (res = 0)) (highNibble16 res) (a.getLsbD 0) :=
  shiftRes_rr16 a cin ▸ runsWithFlags_of_flagsLogic hx h

end

end Sys2Proof.Machine
end

section
/-!
PROOFS. The rows of the 16-bit arithmetic and logic (spec/43_arith16.md R186 to R211).
-/
namespace Sys2Proof.Machine

/-! ## Sums and differences -/

/-- Settles O37: the `ADD` rows write C only, `ADC` and `SBC` all four flags; the model's result, taken from unbounded
integers, is the sum or difference modulo 65536. -/
theorem sixteenBitAdditionsAndSubtraction : Obligations.SixteenBitAdditionsAndSubtraction := by
  intro p s ss xx yy
  refine ⟨?adcHL, ?addHL, ?addIX, ?addIY, ?sbcHL⟩
  case adcHL =>
    have hrun := runsWithFlags_of_flagsAdd (.setSS .hl) (runIn_adcHLss p.ctx s ss)
    rwa [sumRes_eq] at hrun
  case addHL =>
    have hrun := runsWithFlags_of_sumCarry (.setSS .hl) (runIn_addHLss p.ctx s ss)
    rwa [sumRes_false] at hrun
  case addIX =>
    have hrun := runsWithFlags_of_sumCarry .setIX (runIn_addIXxx p.ctx s xx)
    rwa [sumRes_false] at hrun
  case addIY =>
    have hrun := runsWithFlags_of_sumCarry .setIY (runIn_addIYyy p.ctx s yy)
    rwa [sumRes_false] at hrun
  case sbcHL =>
    have hrun := runsWithFlags_of_flagsSub (.setSS .hl) (runIn_sbcHLss p.ctx s ss)
    rwa [diffRes_eq] at hrun

/-! ## AND, OR and BOOL -/

/-- Settles O38: each row writes its result, and flags from it (`AND`, `OR`) or from the register before (`BOOL`). -/
theorem sixteenBitLogicalOperations : Obligations.SixteenBitLogicalOperations := by
  intro p s
  refine ⟨?andHL, ?andIX, ?andIY, ?orHL, ?orIX, ?orIY, ?boolHL, ?boolIX, ?boolIY⟩
  case andHL => exact runsWithFlags_of_flagsLogic (.setSS .hl) (runIn_andHLDE _ s)
  case andIX => exact runsWithFlags_of_flagsLogic .setIX (runIn_andIXDE _ s)
  case andIY => exact runsWithFlags_of_flagsLogic .setIY (runIn_andIYDE _ s)
  case orHL => exact runsWithFlags_of_flagsLogic (.setSS .hl) (runIn_orHLDE _ s)
  case orIX => exact runsWithFlags_of_flagsLogic .setIX (runIn_orIXDE _ s)
  case orIY => exact runsWithFlags_of_flagsLogic .setIY (runIn_orIYDE _ s)
  case boolHL => exact runsWithFlags_of_flagsBool (.setSS .hl) (runIn_boolHL _ s)
  case boolIX => exact runsWithFlags_of_flagsBool .setIX (runIn_boolIX _ s)
  case boolIY => exact runsWithFlags_of_flagsBool .setIY (runIn_boolIY _ s)

/-! ## Rotates through the carry -/

/-- Settles O40: the flags are those of the rotated word and the bit shifted out; the carry shifted in is that of F, the
main one under ALTD too (log 16). -/
theorem sixteenBitRotatesThroughCarry : Obligations.SixteenBitRotatesThroughCarry := by
  intro p s rl rr
  have hrl (v : Word) : shiftRes .rl v s.carry = rl v := shiftRes_rl16 v s.carry
  have hrr (v : Word) : shiftRes .rr v s.carry = rr v := shiftRes_rr16 v s.carry
  refine ⟨?rlDE, ?rrDE, ?rrHL, ?rrIX, ?rrIY⟩
  case rlDE => exact runsWithFlags_of_rl16 (.setSS .de) (hrl s.de ▸ runIn_rlDE p.ctx s)
  case rrDE => exact runsWithFlags_of_rr16 (.setSS .de) (hrr s.de ▸ runIn_rrDE p.ctx s)
  case rrHL => exact runsWithFlags_of_rr16 (.setSS .hl) (hrr s.hl ▸ runIn_rrHL p.ctx s)
  case rrIX => exact runsWithFlags_of_rr16 .setIX (hrr s.ix ▸ runIn_rrIX p.ctx s)
  case rrIY => exact runsWithFlags_of_rr16 .setIY (hrr s.iy ▸ runIn_rrIY p.ctx s)

/-! ## MUL -/

/-- The product of two signed words fits 32 bits, so reducing it to them loses nothing (43_arith16.md R202). -/
theorem mulSigned_toInt (a b : Word) : (mulSigned a b).toInt = a.toInt * b.toInt := by
  have hle : a.toInt * b.toInt ≤ 2 ^ 30 := BitVec.toInt_mul_toInt_le
  have hge : -2 ^ 30 ≤ a.toInt * b.toInt := BitVec.le_toInt_mul_toInt
  exact BitVec.toInt_ofInt_eq_self (by decide) (by omega) (by omega)

/-- A 32-bit value is its high word before its low word. -/
theorem highWord_append_lowWord (v : BitVec 32) : v.extractLsb' 16 16 ++ v.extractLsb' 0 16 = v :=
  (BitVec.extractLsb'_append_extractLsb'_eq_extractLsb' rfl).trans BitVec.extractLsb'_eq_self

/-- Settles O41: HL and BC, of the main set under ALTD too, are the two words of the exact product. -/
theorem multiplyIsExact : Obligations.MultiplyIsExact := by
  intro p s
  have hexact : ((mulSigned s.bc s.de).extractLsb' 16 16 ++ (mulSigned s.bc s.de).extractLsb' 0 16 : BitVec 32).toInt =
      s.bc.toInt * s.de.toInt := by
    rw [highWord_append_lowWord, mulSigned_toInt]
  exact ⟨_, _, hexact, runs_of_advance (runIn_mul p.ctx s) rfl⟩

/-! ## INC and DEC -/

/-- Settles O39: each row writes one register, and no flag. -/
theorem sixteenBitIncrementAndDecrement : Obligations.SixteenBitIncrementAndDecrement := by
  intro p s
  have hinc (ss : SS) : Runs p (.incSS ss) s (s.setSS p.hasAlt ss (s.getSS ss + 1)) 1 :=
    runs_of_advance (runIn_incSS p.ctx s ss) (s.setSS_pc p.hasAlt ss _)
  have hdec (ss : SS) : Runs p (.decSS ss) s (s.setSS p.hasAlt ss (s.getSS ss - 1)) 1 :=
    runs_of_advance (runIn_decSS p.ctx s ss) (s.setSS_pc p.hasAlt ss _)
  exact ⟨hinc .bc, hinc .de, hinc .hl, hinc .sp, hdec .bc, hdec .de, hdec .hl, hdec .sp,
    runs_of_advance (runIn_incIX _ s) (s.setIX_pc _), runs_of_advance (runIn_incIY _ s) (s.setIY_pc _),
    runs_of_advance (runIn_decIX _ s) (s.setIX_pc _), runs_of_advance (runIn_decIY _ s) (s.setIY_pc _)⟩

end Sys2Proof.Machine
end

section
/-!
PROOFS. The eight 8-bit operations on A and one of the five operands (spec/44_arith8.md R212 to R254). The 40 rows are one
operation on one operand form, so what a row runs to is said once, for every operation and every form; the operations
differ in the result, in L/V and in C.
-/
namespace Sys2Proof.Machine

/-! ## The operand -/

namespace Form8
variable (x : Form8) (c : Ctx) (s : State)

/-- A memory operand is one read of a byte, which leaves a trace in an I/O space only; the others need no read
(20_memory.md R43, R48). -/
theorem after_eq_or : x.after c s = s ∨ x.after c s = s.afterRead c 1 := by
  cases x
  case mhl | mix | miy => exact .inr rfl
  case imm | reg => exact .inl rfl

@[simp] theorem after_main : (x.after c s).main = s.main := by
  rcases x.after_eq_or c s with e | e <;> simp [e]
@[simp] theorem after_alt : (x.after c s).alt = s.alt := by
  rcases x.after_eq_or c s with e | e <;> simp [e]
@[simp] theorem after_pc : (x.after c s).pc = s.pc := by
  rcases x.after_eq_or c s with e | e <;> simp [e]
@[simp] theorem after_carry : (x.after c s).carry = s.carry := by rw [State.carry, after_main, State.carry]

end Form8

/-! ## The rows -/

/-- The row of an operation with an operand form (44_arith8.md R212). -/
def Form8.row (x : Form8) : AluOp → Instr
  | .add => x.add
  | .adc => x.adc
  | .sub => x.sub
  | .sbc => x.sbc
  | .conj => x.conj
  | .xor => x.xor
  | .disj => x.disj
  | .cp => x.cp

/-- A row reads its operand, does the operation and moves PC past its bytes. -/
theorem runIn_row (x : Form8) (op : AluOp) (c : Ctx) (s : State) :
    runIn (x.row op) c s = ((x.after c s).alu c op (x.value c s)).advance c x.len := by
  cases x <;> cases op <;> rfl

/-- An operation writes its result to A, unless it is `CP` (44_arith8.md R212, R240). -/
def State.putAlu (s : State) (alt : Bool) (op : AluOp) (res : Byte) : State :=
  if op.writesA then s.updBank alt fun k => { k with a := res } else s

theorem State.alu_eq (s : State) (c : Ctx) (op : AluOp) (v : Byte) :
    s.alu c op v =
      (s.putAlu c.alt op (aluRes op s.main.a v s.carry)).setFlags c.alt (aluFlags op s.main.a v s.carry) := rfl

theorem KeepsFAndPc.putAlu {s x : State} (h : KeepsFAndPc s x) (alt : Bool) (op : AluOp) (res : Byte) :
    KeepsFAndPc s (x.putAlu alt op res) := by
  obtain ⟨⟨hmain, halt⟩, hpc⟩ := h
  unfold State.putAlu
  split
  · exact ⟨⟨by cases alt <;> exact hmain, by cases alt <;> exact halt⟩, hpc⟩
  · exact ⟨⟨hmain, halt⟩, hpc⟩

theorem KeepsFAndPc.form8_after (x : Form8) (c : Ctx) (s : State) : KeepsFAndPc s (x.after c s) :=
  ⟨⟨by simp, by simp⟩, by simp⟩

/-! ## The flags -/

section
variable (op : AluOp) (a v : Byte) (cin : Bool)

/-- Every operation sets S from its result, `CP` from the difference that it does not write (44_arith8.md R213). -/
theorem aluFlags_s : (aluFlags op a v cin).s = some (aluRes op a v cin).msb := by cases op <;> rfl

/-- Every operation sets Z from its result (44_arith8.md R213). -/
theorem aluFlags_z : (aluFlags op a v cin).z = some (decide (aluRes op a v cin = 0)) := by cases op <;> rfl

/-- L/V of a sum without a carry in. -/
theorem sumOv_false8 : sumOv a v false = overflows 8 (a.toInt + v.toInt) := by simpa using sumOv_eq8 a v false

/-- L/V of a difference without a borrow in. -/
theorem diffOv_false8 : diffOv a v false = overflows 8 (a.toInt - v.toInt) := by simpa using diffOv_eq8 a v false

end

/-- What every row of the family runs to: the operation's result in A and in S and Z, and the L/V and C that the
operation gives. -/
theorem runsWithFlags_row (p : Pfx) (s : State) (x : Form8) (op : AluOp) {lv cy : Bool}
    (hlv : (aluFlags op s.main.a (x.value p.ctx s) s.carry).lv = some lv)
    (hc : (aluFlags op s.main.a (x.value p.ctx s) s.carry).c = some cy) :
    let res := aluRes op s.main.a (x.value p.ctx s) s.carry
    RunsWithFlags p (x.row op) s ((x.after p.ctx s).putAlu p.hasAlt op res) x.len res.msb (decide (res = 0)) lv cy := by
  intro res
  have hrun := runIn_row x op p.ctx s
  rw [State.alu_eq, x.after_main, x.after_carry] at hrun
  obtain ⟨hf, hpc⟩ := (KeepsFAndPc.form8_after x p.ctx s).putAlu p.hasAlt op res
  exact runsWithFlags_of_setFlags _ hrun (hf.bank_f _) hpc (by rw [aluFlags_s]; rfl) (by rw [aluFlags_z]; rfl)
    (by rw [hlv]; rfl) (by rw [hc]; rfl)

/-! ## The statements -/

/-- Settles O42: C is the carry of the unsigned sum; the signed overflow of the model's result is that of the exact sum. -/
theorem eightBitAdditions : Obligations.EightBitAdditions := by
  intro p s x a v c sum
  have hsum : sumRes a v s.carry = sum := sumRes_eq a v s.carry
  refine ⟨?add, ?adc⟩
  case add => exact sumRes_false a v ▸ runsWithFlags_row p s x .add (congrArg some (sumOv_false8 a v)) rfl
  case adc => exact hsum ▸ runsWithFlags_row p s x .adc (congrArg some (sumOv_eq8 a v s.carry)) rfl

/-- Settles O43: `SUB` and `CP` are one difference, with C of `SUB` as the open parameter says (log 13) and A kept by
`CP`. -/
theorem eightBitSubtractions : Obligations.EightBitSubtractions := by
  intro p s x a v c dif
  have hsub : diffRes a v false = a - v := diffRes_false a v
  have hdif : diffRes a v s.carry = dif := diffRes_eq a v s.carry
  refine ⟨?sub, ?sbc, ?cp⟩
  case sub => exact hsub ▸ runsWithFlags_row p s x .sub (congrArg some (diffOv_false8 a v)) rfl
  case sbc => exact hdif ▸ runsWithFlags_row p s x .sbc (congrArg some (diffOv_eq8 a v s.carry)) rfl
  case cp => exact hsub ▸ runsWithFlags_row p s x .cp (congrArg some (diffOv_false8 a v)) rfl

/-- Settles O44: the flags are those of the result, with C cleared. -/
theorem eightBitLogicalOperations : Obligations.EightBitLogicalOperations := by
  intro p s x a v
  refine ⟨?conj, ?disj, ?xor⟩
  case conj => exact runsWithFlags_row p s x .conj (congrArg some (logical_eq8 (a &&& v))) rfl
  case disj => exact runsWithFlags_row p s x .disj (congrArg some (logical_eq8 (a ||| v))) rfl
  case xor => exact runsWithFlags_row p s x .xor (congrArg some (logical_eq8 (a ^^^ v))) rfl

end Sys2Proof.Machine
end

section
/-!
PROOFS. The kinds of row of the family 45 (spec/45_bit_incdec_fastA.md): a byte read, changed and written back, and the
flag rows of `BIT`, `INC`, `DEC` and of the rows that write C only. Each kind has one lemma, which its rows cite.
-/
namespace Sys2Proof.Machine

/-! ## A byte read, changed and written back (20_memory.md R43, R48) -/

section
variable (s : State) (c : Ctx) (a : Word)

/-- `INC` of a memory operand, as what is stored and which flags are written. -/
theorem State.incMem_eq :
    s.incMem c a =
      ((s.afterRead c 1).wrD8 c a (s.rdS8 c a + 1)).setFlags c.alt (flagsInc (s.rdS8 c a)) := by
  rw [incMem, rmw, sumRes_false]

/-- `DEC` of a memory operand, as what is stored and which flags are written. -/
theorem State.decMem_eq :
    s.decMem c a =
      ((s.afterRead c 1).wrD8 c a (s.rdS8 c a - 1)).setFlags c.alt (flagsDec (s.rdS8 c a)) := by
  rw [decMem, rmw, diffRes_false]

variable {s c a}

theorem KeepsFAndPc.refl : KeepsFAndPc s s := ⟨⟨rfl, rfl⟩, rfl⟩

theorem KeepsFAndPc.setR8 {b : Bool} {r : R8} {v : Byte} : KeepsFAndPc s (s.setR8 b r v) :=
  ⟨⟨by simp, by simp⟩, by simp⟩

theorem KeepsFAndPc.afterRead {n : Nat} : KeepsFAndPc s (s.afterRead c n) := ⟨⟨by simp, by simp⟩, by simp⟩

theorem KeepsFAndPc.afterRead_wrD8 {n : Nat} {v : Byte} : KeepsFAndPc s ((s.afterRead c n).wrD8 c a v) :=
  ⟨⟨by simp, by simp⟩, by simp⟩

end

/-- A row that writes back the operand changed by `g`, and no flag. -/
theorem runs_of_rmw {p : Pfx} {i : Instr} {s : State} {len : Nat} {a : Word} {g : Byte → Byte}
    (h : runIn i p.ctx s = (s.rmw p.ctx a g).advance p.ctx len) :
    Runs p i s ((s.afterRead p.ctx 1).wrD8 p.ctx a (g (s.rdS8 p.ctx a))) len :=
  runs_of_advance h (s.rmw_pc p.ctx a g)

namespace FormM
variable (x : FormM) (b : BitVec 3) (c : Ctx) (s : State)

theorem runIn_set : runIn (x.set b) c s = (s.rmw c (x.addr s) (setBit b)).advance c x.lenCB := by cases x <;> rfl
theorem runIn_res : runIn (x.res b) c s = (s.rmw c (x.addr s) (resBit b)).advance c x.lenCB := by cases x <;> rfl
theorem runIn_inc : runIn x.inc c s = (s.incMem c (x.addr s)).advance c x.lenInc := by cases x <;> rfl
theorem runIn_dec : runIn x.dec c s = (s.decMem c (x.addr s)).advance c x.lenInc := by cases x <;> rfl

end FormM

/-! ## One bit of a byte -/

section
variable (b : BitVec 3) (v : Byte) {j : Nat} (hj : j < 8)
include hj

/-- `SET b` is a flag write at bit `b`: that bit becomes 1 (45_bit_incdec_fastA.md R263). -/
theorem setBit_getLsbD : (setBit b v).getLsbD j = if j = b.toNat then true else v.getLsbD j :=
  putFlag_getLsbD v b.toNat j (some true) b.isLt hj

/-- `RES b` is a flag write at bit `b`: that bit becomes 0 (45_bit_incdec_fastA.md R259). -/
theorem resBit_getLsbD : (resBit b v).getLsbD j = if j = b.toNat then false else v.getLsbD j :=
  putFlag_getLsbD v b.toNat j (some false) b.isLt hj

end

/-! ## Overflow and borrow at the ends of the range (10_state.md R16) -/

/-- An exact result does not fit a byte for one operand `w` only. -/
theorem overflows_eq_decide8 {n : Int} {v w : Byte}
    (h : -128 ≤ v.toInt → v.toInt < 128 → (n < -128 ∨ 128 ≤ n ↔ v.toInt = w.toInt)) :
    overflows 8 n = decide (v = w) := by
  rw [overflows, decide_eq_decide, ← BitVec.toInt_inj]
  exact h v.le_toInt v.toInt_lt

section
variable (v : Byte)

/-- Adding 1 overflows from the largest signed byte only. -/
theorem sumOv_one : sumOv v 1 false = decide (v = 0x7F) := by
  refine (sumOv_false8 v 1).trans (overflows_eq_decide8 fun hge hlt => ?_)
  show v.toInt + 1 < -128 ∨ 128 ≤ v.toInt + 1 ↔ v.toInt = 127
  omega

/-- Subtracting 1 overflows from the smallest signed byte only. -/
theorem diffOv_one : diffOv v 1 false = decide (v = 0x80) := by
  refine (diffOv_false8 v 1).trans (overflows_eq_decide8 fun hge hlt => ?_)
  show v.toInt - 1 < -128 ∨ 128 ≤ v.toInt - 1 ↔ v.toInt = -128
  omega

/-- The smallest signed byte is the only one whose negative does not fit. -/
theorem diffOv_zero_left : diffOv 0 v false = decide (v = 0x80) := by
  refine (diffOv_false8 0 v).trans (overflows_eq_decide8 fun hge hlt => ?_)
  show 0 - v.toInt < -128 ∨ 128 ≤ 0 - v.toInt ↔ v.toInt = -128
  omega

theorem diffRes_zero_left : diffRes 0 v false = -v := (diffRes_false 0 v).trans (BitVec.zero_sub v)

/-- `0 - v` borrows unless `v` is 0 (92_eei_decisions.md D24, log 22). -/
theorem diffBorrow_zero_left : diffBorrow 0 v false = decide (v ≠ 0) := by
  rw [diffBorrow, decide_eq_decide, ne_eq, ← BitVec.toNat_inj]
  exact Nat.pos_iff_ne_zero

end

/-! ## The kinds of flag update -/

/-- The flags as a change of the register set they go to, when F and F' are still those of `s`. -/
theorem State.setFlags_eq_updBank {s x : State} (b : Bool) (u : FlagUpd) (hf : (x.bank b).f = (s.bank b).f) :
    x.setFlags b u = x.updBank b fun k => { k with f := u.apply (s.bank b).f } := by
  rw [← hf]
  cases b <;> rfl

/-- What `BIT` writes to a flag register: Z only (45_bit_incdec_fastA.md R255). -/
theorem flagsAre_flagsBit (b : BitVec 3) (v f : Byte) :
    FlagsAre ((flagsBit b v).apply f) f (flagS f) (!v.getLsbD b.toNat) (flagLV f) (flagC f) :=
  flagsAre_apply (flagsBit b v) f

section
variable {p : Pfx} {i : Instr} {s x : State} {len : Nat} {b : BitVec 3} {v : Byte} {cy : Bool} (hx : KeepsFAndPc s x)
include hx

theorem runsWithFlags_of_flagsBit
    (h : runIn i p.ctx s = (x.setFlags p.hasAlt (flagsBit b v)).advance p.ctx len) :
    RunsWithFlags p i s x len (s.oldS p) (!v.getLsbD b.toNat) (s.oldLV p) (s.oldC p) :=
  runsWithFlags_of_setFlags _ h (hx.f.bank_f _) hx.pc rfl rfl rfl rfl

/-- As `runsWithFlags_of_flagsBit`, for a privileged row (60_exceptions.md R410). -/
theorem runsPrivileged_of_flagsBit
    (h : runIn i p.ctx s = (x.setFlags p.hasAlt (flagsBit b v)).advancePriv p.ctx len) :
    ∃ f, FlagsAre f (s.bank p.hasAlt).f (s.oldS p) (!v.getLsbD b.toNat) (s.oldLV p) (s.oldC p) ∧
      RunsPrivileged p i s (x.updBank p.hasAlt fun k => { k with f := f }) len := by
  rw [State.setFlags_eq_updBank p.hasAlt _ (hx.f.bank_f _)] at h
  exact ⟨_, flagsAre_flagsBit b v _, runsPrivileged_of_advancePriv h hx.pc⟩

/-- S, Z and L/V of `v + 1`; C is kept (45_bit_incdec_fastA.md R267). -/
theorem runsWithFlags_of_flagsInc
    (h : runIn i p.ctx s = (x.setFlags p.hasAlt (flagsInc v)).advance p.ctx len) :
    RunsWithFlags p i s x len (v + 1).msb (decide (v + 1 = 0)) (decide (v = 0x7F)) (s.oldC p) :=
  sumRes_false v 1 ▸ runsWithFlags_of_setFlags _ h (hx.f.bank_f _) hx.pc rfl rfl (sumOv_one v) rfl

/-- S, Z and L/V of `v - 1`; C is kept (45_bit_incdec_fastA.md R267). -/
theorem runsWithFlags_of_flagsDec
    (h : runIn i p.ctx s = (x.setFlags p.hasAlt (flagsDec v)).advance p.ctx len) :
    RunsWithFlags p i s x len (v - 1).msb (decide (v - 1 = 0)) (decide (v = 0x80)) (s.oldC p) :=
  diffRes_false v 1 ▸ runsWithFlags_of_setFlags _ h (hx.f.bank_f _) hx.pc rfl rfl (diffOv_one v) rfl

/-- All four flags of `0 - v` (45_bit_incdec_fastA.md R277). -/
theorem runsWithFlags_of_negate
    (h : runIn i p.ctx s = (x.setFlags p.hasAlt (flagsSub 0 v false)).advance p.ctx len) :
    RunsWithFlags p i s x len (-v).msb (decide (v = 0)) (decide (v = 0x80)) (decide (v ≠ 0)) := by
  have hzero : isZero (diffRes 0 v false) = decide (v = 0) := by
    rw [diffRes_zero_left, isZero, decide_eq_decide]
    exact BitVec.neg_eq_zero_iff
  exact runsWithFlags_of_setFlags _ h (hx.f.bank_f _) hx.pc (congrArg BitVec.msb (diffRes_zero_left v)) hzero
    (diffOv_zero_left v) (diffBorrow_zero_left v)

/-- Only C is written. -/
theorem runsWithFlags_of_carryFlag
    (h : runIn i p.ctx s = (x.setFlags p.hasAlt { c := some cy }).advance p.ctx len) :
    RunsWithFlags p i s x len (s.oldS p) (s.oldZ p) (s.oldLV p) cy :=
  runsWithFlags_of_setFlags _ h (hx.f.bank_f _) hx.pc rfl rfl rfl rfl

end

end Sys2Proof.Machine
end

section
/-!
PROOFS. The rows of the family 45 (spec/45_bit_incdec_fastA.md R255 to R281), and CCF, SCF and NOP
(spec/49_misc_privileged.md R337, R343, R344).
-/
namespace Sys2Proof.Machine

/-! ## BIT, SET and RES -/

/-- Settles O45: `BIT` reads its operand and writes Z; the `(HL)` row ends as a privileged one. -/
theorem bitTests : Obligations.BitTests := by
  intro p s b d r
  refine ⟨?mhl, ?mix, ?miy, ?reg⟩
  case mhl => exact runsPrivileged_of_flagsBit .afterRead (runIn_bitMhl p.ctx s b)
  case mix => exact runsWithFlags_of_flagsBit .afterRead (runIn_bitMix p.ctx s b d)
  case miy => exact runsWithFlags_of_flagsBit .afterRead (runIn_bitMiy p.ctx s b d)
  case reg => exact runsWithFlags_of_flagsBit .refl (runIn_bitR p.ctx s b r)

/-- Settles O46: each row writes back its operand with one bit written, to memory, to the I/O space that both accesses
use (D22, log 17), or to the register that ALTD selects. -/
theorem bitSetAndReset : Obligations.BitSetAndReset := by
  intro p s b x r v u
  have hreg {w : Byte} : (s.setR8 p.hasAlt r w).pc = s.pc := s.setR8_pc p.hasAlt r w
  refine ⟨?setM, ?resM, ?setR, ?resR⟩
  case setM => exact ⟨setBit b v, fun _ => setBit_getLsbD b v, runs_of_rmw (x.runIn_set b p.ctx s)⟩
  case resM => exact ⟨resBit b v, fun _ => resBit_getLsbD b v, runs_of_rmw (x.runIn_res b p.ctx s)⟩
  case setR => exact ⟨setBit b u, fun _ => setBit_getLsbD b u, runs_of_advance (runIn_setR p.ctx s b r) hreg⟩
  case resR => exact ⟨resBit b u, fun _ => resBit_getLsbD b u, runs_of_advance (runIn_resR p.ctx s b r) hreg⟩

/-! ## INC and DEC -/

/-- Settles O48: a row writes back its operand with 1 added or subtracted, and S, Z and L/V. -/
theorem flagsOfIncrementAndDecrement : Obligations.FlagsOfIncrementAndDecrement := by
  intro p s x r v u
  refine ⟨?incM, ?decM, ?incR, ?decR, fun w => ⟨sumOv_one w, diffOv_one w⟩, rfl⟩
  case incM => exact runsWithFlags_of_flagsInc .afterRead_wrD8 (s.incMem_eq p.ctx _ ▸ x.runIn_inc p.ctx s)
  case decM => exact runsWithFlags_of_flagsDec .afterRead_wrD8 (s.decMem_eq p.ctx _ ▸ x.runIn_dec p.ctx s)
  case incR => exact runsWithFlags_of_flagsInc .setR8 (runIn_incR p.ctx s r)
  case decR => exact runsWithFlags_of_flagsDec .setR8 (runIn_decR p.ctx s r)

/-! ## The operations on A and on C -/

/-- The bit of a byte that a shift or rotate moves out (46_shift_rotate.md R282). -/
theorem shiftOut_eq8 (op : ShiftOp) (v : Byte) :
    shiftOut op v = if op.isLeft then v.getLsbD 7 else v.getLsbD 0 := by
  rw [shiftOut, BitVec.msb_eq_getLsbD_last]

/-- A rotate of A writes A and C; the carry shifted in is that of F, the main one under ALTD too (log 16). -/
theorem runsWithFlags_of_rotateA {p : Pfx} {i : Instr} {s : State} {len : Nat} {res : Byte} {out : Bool}
    (op : ShiftOp)
    (h : runIn i p.ctx s =
      ((s.setR8 p.hasAlt .a (shiftRes op s.main.a s.carry)).setFlags p.hasAlt
        { c := some (shiftOut op s.main.a) }).advance p.ctx len)
    (hres : shiftRes op s.main.a s.carry = res) (hout : shiftOut op s.main.a = out) :
    RunsWithFlags p i s (s.updBank p.hasAlt fun k => { k with a := res }) len (s.oldS p) (s.oldZ p) (s.oldLV p)
      out := by
  subst hres hout
  exact runsWithFlags_of_carryFlag (.setR8 (r := .a)) h

/-- Settles O49: CPL and NEG write A with its complement and its negative, a rotate writes A and C, CCF and SCF write C
only, and NOP nothing. -/
theorem fastAccumulatorAndFlagOperations : Obligations.FastAccumulatorAndFlagOperations := by
  intro p s a
  refine ⟨?cpl, ?neg, ?rla, ?rlca, ?rra, ?rrca, ?ccf, ?scf, ?nop⟩
  case cpl => exact runs_of_advance (runIn_cpl p.ctx s) (s.setR8_pc p.hasAlt .a _)
  case neg =>
    have hrun := runIn_neg p.ctx s
    rw [diffRes_zero_left] at hrun
    exact runsWithFlags_of_negate (.setR8 (r := .a)) hrun
  case rla => exact runsWithFlags_of_rotateA .rl (runIn_rla p.ctx s) (shiftRes_eq .rl a _) (shiftOut_eq8 .rl a)
  case rlca => exact runsWithFlags_of_rotateA .rlc (runIn_rlca p.ctx s) (shiftRes_eq .rlc a _) (shiftOut_eq8 .rlc a)
  case rra => exact runsWithFlags_of_rotateA .rr (runIn_rra p.ctx s) (shiftRes_eq .rr a _) (shiftOut_eq8 .rr a)
  case rrca => exact runsWithFlags_of_rotateA .rrc (runIn_rrca p.ctx s) (shiftRes_eq .rrc a _) (shiftOut_eq8 .rrc a)
  case ccf => exact runsWithFlags_of_carryFlag .refl (runIn_ccf p.ctx s)
  case scf => exact runsWithFlags_of_carryFlag .refl (runIn_scf p.ctx s)
  case nop => exact runs_of_advance (runIn_nop p.ctx s) rfl

end Sys2Proof.Machine
end

section
/-!
PROOFS. The shifts and rotates of a byte (spec/46_shift_rotate.md R282 to R310). The 28 rows are seven operations on four
operand forms, so what a row runs to is said once, for every operation; the operations differ in the result and in the
bit shifted out.
-/
namespace Sys2Proof.Machine

/-! ## The rows of an operation -/

/-- The row of an operation with a memory operand (46_shift_rotate.md R282). -/
def ShiftOp.memRow : ShiftOp → FormM → Instr
  | .rl => FormM.rl
  | .rlc => FormM.rlc
  | .rr => FormM.rr
  | .rrc => FormM.rrc
  | .sla => FormM.sla
  | .sra => FormM.sra
  | .srl => FormM.srl

/-- The row of an operation with a register operand (46_shift_rotate.md R282). -/
def ShiftOp.regRow : ShiftOp → R8 → Instr
  | .rl => .rlR
  | .rlc => .rlcR
  | .rr => .rrR
  | .rrc => .rrcR
  | .sla => .slaR
  | .sra => .sraR
  | .srl => .srlR

section
variable (op : ShiftOp) (c : Ctx) (s : State)

theorem runIn_memRow (x : FormM) :
    runIn (op.memRow x) c s = (s.shiftMem c op (x.addr s)).advance c x.lenCB := by
  cases op <;> cases x <;> rfl

theorem runIn_regRow (r : R8) :
    runIn (op.regRow r) c s =
      ((s.setR8 c.alt r (shiftRes op (s.main.get r) s.carry)).setFlags c.alt
        (flagsShift op (s.main.get r) s.carry)).advance c 2 := by
  cases op <;> rfl

end

/-! ## The flags -/

/-- All four flags of a shift or rotate: S, Z and L/V from the result, C the bit shifted out (46_shift_rotate.md R282). -/
theorem runsWithFlags_of_flagsShift {p : Pfx} {i : Instr} {s x : State} {len : Nat} {op : ShiftOp} {v : Byte}
    {cin : Bool} (hx : KeepsFAndPc s x)
    (h : runIn i p.ctx s = (x.setFlags p.hasAlt (flagsShift op v cin)).advance p.ctx len) :
    RunsWithFlags p i s x len (shiftRes op v cin).msb (decide (shiftRes op v cin = 0))
      (highNibble (shiftRes op v cin)) (shiftOut op v) :=
  runsWithFlags_of_setFlags _ h (hx.f.bank_f _) hx.pc rfl rfl (logical_eq8 _) rfl

/-! ## The statement -/

/-- The rows of an operation do what R282 says, once its result and the bit shifted out are written as there; the carry
shifted in is that of F, the main one under ALTD too (log 16). -/
theorem shiftsTo_of_op {p : Pfx} {s : State} {res : Byte → Byte} {out : Byte → Bool} (op : ShiftOp)
    (hres : ∀ v, shiftRes op v s.carry = res v) (hout : ∀ v : Byte, shiftOut op v = out v) :
    ShiftsTo p s op.memRow op.regRow res out := by
  obtain rfl : (fun v => shiftRes op v s.carry) = res := funext hres
  obtain rfl : shiftOut op = out := funext hout
  refine ⟨fun x => ?mem, fun r => ?reg⟩
  case mem => exact runsWithFlags_of_flagsShift .afterRead_wrD8 (runIn_memRow op p.ctx s x)
  case reg => exact runsWithFlags_of_flagsShift (.setR8 (r := r)) (runIn_regRow op p.ctx s r)

/-- Settles O50: for each operation, the model's result is the concatenation that R282 writes, and its bit shifted out
is bit 7 of a left shift and bit 0 of a right one. -/
theorem shiftsAndRotatesOfAByte : Obligations.ShiftsAndRotatesOfAByte := by
  intro p s
  refine ⟨?rl, ?rlc, ?rr, ?rrc, ?sla, ?sra, ?srl⟩
  case rl => exact shiftsTo_of_op .rl (shiftRes_eq .rl · _) (shiftOut_eq8 .rl)
  case rlc => exact shiftsTo_of_op .rlc (shiftRes_eq .rlc · _) (shiftOut_eq8 .rlc)
  case rr => exact shiftsTo_of_op .rr (shiftRes_eq .rr · _) (shiftOut_eq8 .rr)
  case rrc => exact shiftsTo_of_op .rrc (shiftRes_eq .rrc · _) (shiftOut_eq8 .rrc)
  case sla => exact shiftsTo_of_op .sla (shiftRes_eq .sla · _) (shiftOut_eq8 .sla)
  case sra => exact shiftsTo_of_op .sra (shiftRes_eq .sra · _) (shiftOut_eq8 .sra)
  case srl => exact shiftsTo_of_op .srl (shiftRes_eq .srl · _) (shiftOut_eq8 .srl)

end Sys2Proof.Machine
end

section
/-!
PROOFS. What every row leaves to the boundary behind it (spec/60_exceptions.md R400, R402 to R410), and the state after
reset (70_reset_and_hazards.md R430).
-/
namespace Sys2Proof.Machine

/-! ## The acceptance test and the boundary (60_exceptions.md R405) -/

theorem Priority.bits_le_three (q : Priority) : q.bits ≤ 3 := by cases q <;> decide

section
variable {s : State}

theorem State.accepts_iff {q : IrqRequest} :
    s.accepts q = true ↔ s.inhibit = false ∧ s.currentPriority < q.priority.bits := by
  simp [State.accepts]

/-- No priority is above 3 (60_exceptions.md R405). -/
theorem State.accepts_of_currentPriority_three (h : s.currentPriority = 3) (q : IrqRequest) : s.accepts q = false := by
  rw [Bool.eq_false_iff, Ne, State.accepts_iff, h]
  rintro ⟨-, hlt⟩
  exact BitVec.not_lt.mpr q.priority.bits_le_three hlt

theorem State.boundary_of_accepts {q : IrqRequest} {rest : List (Option IrqRequest)} (hirq : s.irq = some q :: rest)
    (h : s.accepts q = true) : s.boundary = (s.setIrq rest).enterInterrupt q := by
  simp only [State.boundary, hirq, h, if_true]

/-- Where no offered request passes the test, the boundary only uses up the offer. -/
theorem State.boundary_of_not_accepts (h : ∀ q rest, s.irq = some q :: rest → s.accepts q = false) :
    s.boundary = { s with irq := s.irq.tail } := by
  rcases s.boundary_cases with e | ⟨q, rest, hirq, ha, -⟩
  · exact e
  · rw [h q rest hirq] at ha
    exact Bool.noConfusion ha

theorem State.boundary_irq (s : State) : s.boundary.irq = s.irq.tail := by
  rcases s.boundary_cases with e | ⟨q, rest, hirq, -, e⟩ <;> rw [e]
  rw [hirq]
  rfl

theorem State.boundary_translation (s : State) : s.boundary.translation = s.translation := by
  rcases s.boundary_cases with e | ⟨_, _, -, -, e⟩ <;> rw [e]
  rfl

end

/-- Settles O1: the values are those of `State.reset`, and IP = 0xFF makes the current priority 3. -/
theorem resetLeavesTheDefaultValues : Obligations.ResetLeavesTheDefaultValues :=
  ⟨rfl, rfl, rfl, rfl, rfl, rfl, rfl, State.accepts_of_currentPriority_three rfl⟩

/-- Settles O18: a request that passes the test is taken, and any other offer is used up. -/
theorem boundaryAcceptsHigherPriorityOnly : Obligations.BoundaryAcceptsHigherPriorityOnly := by
  intro s q rest
  refine ⟨?taken, ?refused, ?highest, ?noRequest, ?noOffer⟩
  case taken =>
    intro hirq hinh hprio
    exact State.boundary_of_accepts hirq (State.accepts_iff.mpr ⟨hinh, hprio⟩)
  case refused =>
    intro hirq h
    have hq : s.accepts q = false := by
      rw [Bool.eq_false_iff, Ne, State.accepts_iff]
      rintro ⟨hinh, hprio⟩
      rcases h with hinh' | hprio'
      · exact Bool.false_ne_true (hinh.symm.trans hinh')
      · exact hprio' hprio
    rw [State.boundary_of_not_accepts (by simpa [hirq] using hq), hirq]
    rfl
  case highest => exact fun h => State.boundary_of_not_accepts fun q _ _ => State.accepts_of_currentPriority_three h q
  case noRequest =>
    intro hirq
    rw [State.boundary_of_not_accepts (by simp [hirq]), hirq]
    rfl
  case noOffer =>
    intro hirq
    rw [State.boundary, hirq]

/-! ## What every row keeps (60_exceptions.md R400, R405) -/

/-- The offers of IRQ are for the boundaries: no row uses one. -/
theorem runIn_irq (i : Instr) (c : Ctx) (s : State) : (runIn i c s).irq = s.irq := by
  induction i generalizing c
  case altd j ih => exact ih c.withAlt
  case ioi j ih => exact ih (c.withIo .int)
  case ioe j ih => exact ih (c.withIo .ext)
  all_goals simp

/-- No row changes the choice of `Translate`. -/
theorem runIn_translation (i : Instr) (c : Ctx) (s : State) : (runIn i c s).translation = s.translation := by
  induction i generalizing c
  case altd j ih => exact ih c.withAlt
  case ioi j ih => exact ih (c.withIo .int)
  case ioe j ih => exact ih (c.withIo .ext)
  all_goals simp

/-- A step that goes on is an instruction and the boundary behind it. -/
theorem exists_runIn_of_step {s t : State} (h : step s = .next t) : ∃ i, t = (runIn i Ctx.bare s).boundary := by
  cases hd : decode s.fetchBytes with
  | error e =>
    rw [step_of_undefined hd] at h
    cases h
  | ok r =>
    obtain ⟨i, rest⟩ := r
    rw [step_of_decode hd] at h
    cases h
    exact ⟨i, rfl⟩

/-- Settles O9: every instruction is an effect of `runIn`, and there is no fault. -/
theorem everyInstructionCompletes : Obligations.EveryInstructionCompletes := by
  refine ⟨?completes, ?noFault, ?rst, ?step⟩
  case completes =>
    exact fun i s => ⟨_, exec_eq_runIn i s, runIn_irq i Ctx.bare s, runIn_translation i Ctx.bare s⟩
  case noFault => exact fun _ f => nomatch f
  case rst =>
    intro v s t ht
    rw [exec_eq_runIn] at ht
    cases ht
    exact ⟨rfl, rfl⟩
  case step =>
    intro s t ht
    obtain ⟨i, rfl⟩ := exists_runIn_of_step ht
    rw [State.boundary_irq, State.boundary_translation, runIn_irq, runIn_translation]
    exact ⟨rfl, rfl⟩

/-! ## The hidden bit `inhibit` (10_state.md R25, 60_exceptions.md R406, R410) -/

/-- The privileged rows are the twelve of the list in R410. -/
theorem isPrivileged_iff (i : Instr) :
    isPrivileged i = true ↔
      i = .ldSPHL ∨ i = .ldSPIX ∨ i = .ldSPIY ∨ i = .ipset0 ∨ i = .ipset1 ∨ i = .ipset2 ∨ i = .ipset3 ∨
      i = .ipres ∨ i = .popIP ∨ i = .reti ∨ i = .ldXPCA ∨ ∃ b, i = .bitMhl b := by
  cases i <;> simp [isPrivileged]

/-- The same state with another `inhibit`. -/
def State.withInhibit (s : State) (b : Bool) : State := { s with inhibit := b }

section
variable {i : Instr} (c : Ctx) (s : State) (b : Bool)

/-- A row with an operand that IOI and IOE move: once the space is known, both sides are the same record. -/
theorem runIn_withInhibit_of_ioCol (h : ioCol i ≠ .empty) : runIn i c (s.withInhibit b) = runIn i c s := by
  obtain ⟨alt, io, plen⟩ := c
  cases i
  case ldDDMmn dd mn => cases io <;> cases dd <;> rfl
  case ldAMmn | ldAMbc | ldAMde | ldRMhl | ldRMix | ldRMiy | ldHLMmn | ldHLMhld | ldHLMix | ldHLMiy | ldIXMmn
    | ldIYMmn | ldMmnA | ldMbcA | ldMdeA | ldMhlN | ldMhlR | ldMixN | ldMixR | ldMiyN | ldMiyR | ldMmnHL
    | ldMmnIX | ldMmnIY | ldMmnSS | ldMhldHL | ldMixHL | ldMiyHL | adcMhl | adcMix | adcMiy | addMhl | addMix
    | addMiy | andMhl | andMix | andMiy | cpMhl | cpMix | cpMiy | orMhl | orMix | orMiy | sbcMhl | sbcMix
    | sbcMiy | subMhl | subMix | subMiy | xorMhl | xorMix | xorMiy | bitMhl | bitMix | bitMiy | resMhl | resMix
    | resMiy | setMhl | setMix | setMiy | incMhl | incMix | incMiy | decMhl | decMix | decMiy | rlMhl | rlMix
    | rlMiy | rlcMhl | rlcMix | rlcMiy | rrMhl | rrMix | rrMiy | rrcMhl | rrcMix | rrcMiy | slaMhl | slaMix
    | slaMiy | sraMhl | sraMix | sraMiy | srlMhl | srlMix | srlMiy | ldi | ldd | ldir | lddr =>
    cases io <;> rfl
  all_goals exact absurd rfl h

/-- A row without such an operand: once the pair, or for the exchanges the set, is known, both sides are the same
record. -/
theorem runIn_withInhibit_of_ioCol_empty (hp : i.isPrefixed = false) (h : ioCol i = .empty) :
    runIn i c (s.withInhibit b) = runIn i c s := by
  cases i
  case altd | ioi | ioe => exact Bool.noConfusion hp
  case ldDDmn r _ | incSS r | decSS r | ldDDaBC r | ldDDaDE r | popZZ r | pushZZ r => cases r <;> rfl
  case exDEaHL | exDEHL =>
    obtain ⟨alt, io, plen⟩ := c
    cases alt <;> rfl
  all_goals cases h <;> rfl

/-- No row reads `inhibit`, and the last act of every row writes it. -/
theorem runIn_withInhibit_of_not_isPrefixed (hp : i.isPrefixed = false) :
    runIn i c (s.withInhibit b) = runIn i c s := by
  by_cases h : ioCol i = .empty
  · exact runIn_withInhibit_of_ioCol_empty c s b hp h
  · exact runIn_withInhibit_of_ioCol c s b h

end

/-- What an instruction computes does not depend on `inhibit`, behind prefixes neither. -/
theorem runIn_withInhibit (i : Instr) (c : Ctx) (s : State) (b : Bool) :
    runIn i c (s.withInhibit b) = runIn i c s := by
  induction i generalizing c
  case altd j ih => exact ih c.withAlt
  case ioi j ih => exact ih (c.withIo .int)
  case ioe j ih => exact ih (c.withIo .ext)
  all_goals exact runIn_withInhibit_of_not_isPrefixed c s b rfl

/-- Settles O14: `inhibit` after a row is `isPrivileged`, a boundary takes nothing while it is 1, and no row reads
it. -/
theorem privilegeHoldsOffOneBoundary : Obligations.PrivilegeHoldsOffOneBoundary := by
  refine ⟨?rows, fun _ => State.boundary_of_inhibit, ?unread⟩
  case rows =>
    intro p i s t hb ht
    rw [exec_wrap] at ht
    cases ht
    rw [runIn_inhibit p.ctx s hb, isPrivileged_iff]
  case unread =>
    intro i s b
    rw [exec_eq_runIn, exec_eq_runIn]
    exact congrArg _ (runIn_withInhibit i Ctx.bare s b)

/-! ## The return from an interrupt (60_exceptions.md R403, R408) -/

/-- `IPRES` after an entry brings back the three newest priorities. -/
theorem ipPop_ipPush_low (ip : Byte) (q : BitVec 2) : (ipPop (ipPush ip q)).extractLsb' 0 6 = ip.extractLsb' 0 6 :=
  BitVec.extractLsb'_append_eq_right.trans BitVec.extractLsb'_append_eq_left

theorem ipPop_ipPush_current (ip : Byte) (q : BitVec 2) :
    (ipPop (ipPush ip q)).extractLsb' 0 2 = ip.extractLsb' 0 2 :=
  (ipPop_current _).trans (ipPush_previous ip q)

@[simp] theorem State.enterInterrupt_mem (s : State) (q : IrqRequest) :
    (s.enterInterrupt q).mem = (s.push16 s.pc).mem := rfl
@[simp] theorem State.enterInterrupt_sp (s : State) (q : IrqRequest) : (s.enterInterrupt q).sp = s.sp - 2 := rfl

/-- The word on the stack after an entry and `IPRES`, which leaves the stack alone. -/
theorem mem16_sp_runIn_ipres_enterInterrupt (c : Ctx) (s : State) (q : IrqRequest)
    (h : s.phys (s.sp - 1) ≠ s.phys (s.sp - 2)) :
    (runIn .ipres c (s.enterInterrupt q)).mem16 (runIn .ipres c (s.enterInterrupt q)).sp = s.pc :=
  State.mem16_sp_of_push16 h (by simp) (by simp) (by simp) (by simp) (by simp)

/-- Settles O19: `IPRES` undoes the shift of IP and leaves the stack alone, so `RET` finds the address that the entry
pushed. -/
theorem ipresAndRetReturnFromAnInterrupt : Obligations.IpresAndRetReturnFromAnInterrupt := by
  intro s q h
  refine ⟨_, _, exec_eq_runIn _ _, rfl, exec_eq_runIn _ _, ?pc, ?sp, ?current, ?low, ?others⟩
  case pc => exact mem16_sp_runIn_ipres_enterInterrupt _ s q h
  case sp => exact BitVec.sub_add_cancel s.sp 2
  case current => exact ipPop_ipPush_current s.ip _
  case low => exact ipPop_ipPush_low s.ip _
  case others => simp

end Sys2Proof.Machine
end

section
/-!
PROOFS. Jumps, calls and returns (spec/48_control.md R320 to R336), and ALTD, IOI and IOE before a row
(47_prefix_block.md R311 to R313).
-/
namespace Sys2Proof.Machine

/-- Settles O17: ALTD, IOI and IOE run the row behind them with what they select. -/
theorem prefixRowsActOnTheInstructionBehindThem : Obligations.PrefixRowsActOnTheInstructionBehindThem := by
  intro s r n mn
  exact ⟨exec_eq_runIn (.altd (.ldRN r n)) s, exec_eq_runIn (.ioi (.ldMmnA mn)) s, exec_eq_runIn (.ioe (.ldAMmn mn)) s,
    exec_eq_runIn (.altd (.ioi (.ldAMmn mn))) s, rfl⟩

/-! ## Rows that go by a condition (48_control.md R320) -/

section
variable {p : Pfx} {i : Instr} {s x : State} {len : Nat} {take : Bool} {t : Word}

theorem jumpsTo_of_branch (h : runIn i p.ctx s = x.branch p.ctx len take t) (htake : take = true) :
    JumpsTo p i s x t :=
  jumpsTo_of_runIn (by rw [h, htake]; rfl)

theorem runs_of_branch (h : runIn i p.ctx s = x.branch p.ctx len take t) (hpc : x.pc = s.pc) (htake : take = false) :
    Runs p i s x len :=
  runs_of_advance (by rw [h, htake]; rfl) hpc

end

section
variable {p : Pfx} {s : State}

theorem jumpsTo_jpF {mn : Word} (f : CondF) (h : s.condF f = true) : JumpsTo p (.jpF f mn) s s mn :=
  jumpsTo_of_branch (runIn_jpF p.ctx s f mn) h

theorem runs_jpF {mn : Word} (f : CondF) (h : s.condF f = false) : Runs p (.jpF f mn) s s 3 :=
  runs_of_branch (runIn_jpF p.ctx s f mn) rfl h

theorem jumpsTo_jrCC {e : Byte} (cc : CondCC) (h : s.condCC cc = true) :
    JumpsTo p (.jrCC cc e) s s (s.pc + BitVec.ofNat 16 (p.bytes.length + 2) + e.signExtend 16) :=
  jumpsTo_of_branch (runIn_jrCC p.ctx s cc e) h

theorem runs_jrCC {e : Byte} (cc : CondCC) (h : s.condCC cc = false) : Runs p (.jrCC cc e) s s 2 :=
  runs_of_branch (runIn_jrCC p.ctx s cc e) rfl h

theorem jumpsTo_retF (f : CondF) (h : s.condF f = true) :
    JumpsTo p (.retF f) s { s with sp := s.sp + 2 } (mkWord (s.mem8 (s.sp + 1)) (s.mem8 s.sp)) :=
  jumpsTo_of_runIn (by rw [runIn_retF, h]; rfl)

theorem runs_retF (f : CondF) (h : s.condF f = false) : Runs p (.retF f) s s 1 :=
  runs_of_advance (x := s) (by rw [runIn_retF, h]; rfl) rfl

end

/-- Settles O55: `JP f,mn` and `JR cc,e` are branches on a flag of the main F or, for NZ, NC, LZ and P, on its
complement. -/
theorem conditionalJumps : Obligations.ConditionalJumps := by
  intro p s mn e rel
  exact ⟨fun h => jumpsTo_jpF .nz (congrArg not h), fun h => runs_jpF .nz (congrArg not h), jumpsTo_jpF .z, runs_jpF .z,
    fun h => jumpsTo_jpF .nc (congrArg not h), fun h => runs_jpF .nc (congrArg not h), jumpsTo_jpF .c, runs_jpF .c,
    fun h => jumpsTo_jpF .lz (congrArg not h), fun h => runs_jpF .lz (congrArg not h), jumpsTo_jpF .lo, runs_jpF .lo,
    fun h => jumpsTo_jpF .p (congrArg not h), fun h => runs_jpF .p (congrArg not h), jumpsTo_jpF .m, runs_jpF .m,
    fun h => jumpsTo_jrCC .nz (congrArg not h), fun h => runs_jrCC .nz (congrArg not h), jumpsTo_jrCC .z, runs_jrCC .z,
    fun h => jumpsTo_jrCC .nc (congrArg not h), fun h => runs_jrCC .nc (congrArg not h), jumpsTo_jrCC .c, runs_jrCC .c⟩

/-! ## Jumps and DJNZ -/

/-- `DJNZ` jumps while the new B is not 0 (48_control.md R322). -/
theorem sub_one_bne_zero (b : Byte) : (b - 1 != 0) = decide (b ≠ 1) := by
  rw [bne, beq_eq_decide, ← decide_not, decide_eq_decide, not_iff_not]
  exact sub_eq_zero

/-- Settles O56: each jump writes PC, and LJP also XPC; DJNZ branches on the B that it writes. -/
theorem unconditionalJumpsAndDjnz : Obligations.UnconditionalJumpsAndDjnz := by
  intro p s mn e x rel counted
  have hdjnz : runIn (.djnz e) p.ctx s = counted.branch p.ctx 2 (decide (s.main.b ≠ 1)) rel := by
    rw [runIn_djnz, sub_one_bne_zero]
    rfl
  exact ⟨jumpsTo_of_runIn (runIn_jpMn p.ctx s mn), jumpsTo_of_runIn (runIn_jpHL p.ctx s),
    jumpsTo_of_runIn (runIn_jpIX p.ctx s), jumpsTo_of_runIn (runIn_jpIY p.ctx s),
    jumpsTo_of_runIn (runIn_jrE p.ctx s e), jumpsTo_of_runIn (runIn_ljp p.ctx s x mn),
    fun h => jumpsTo_of_branch hdjnz (decide_eq_true h),
    fun h => runs_of_branch hdjnz rfl (decide_eq_false (not_not.mpr h))⟩

/-! ## Calls -/

/-- A byte, then a word below it: the three bytes that `LCALL` pushes (48_control.md R330). -/
theorem State.push8_push16 (s : State) (v : Byte) (w : Word) :
    (s.push8 v).push16 w =
      { ((s.wrMem8 (s.sp - 1) v).wrMem8 (s.sp - 2) (hiByte w)).wrMem8 (s.sp - 3) (loByte w) with sp := s.sp - 3 } := by
  have h1 : s.sp - 1 - 1 = s.sp - 2 := by bv_omega
  have h2 : s.sp - 1 - 2 = s.sp - 3 := by bv_omega
  rw [State.push16, State.push8_sp, h1, h2]
  rfl

/-- Settles O57: CALL and RST push one word, LCALL a byte and a word, and each goes to its target. -/
theorem callsPushTheNextAddress : Obligations.CallsPushTheNextAddress := by
  intro p s mn x ra pushed
  have hrst (v : Rst) : JumpsTo p (.rst v) s (pushed 1) (s.rstTarget v) := jumpsTo_of_runIn (runIn_rst p.ctx s v)
  exact ⟨jumpsTo_of_runIn (runIn_callMn p.ctx s mn), hrst .v10, hrst .v18, hrst .v20, hrst .v28, hrst .v38,
    jumpsTo_of_runIn (by rw [runIn_lcall, State.push8_push16]; rfl)⟩

/-! ## Returns -/

/-- Settles O58: each return takes PC from the stack, and LRET also XPC, RETI also IP; RET f does so by its
condition. -/
theorem returnsPopTheAddress : Obligations.ReturnsPopTheAddress := by
  intro p s top
  have hreti : exec (p.wrap .reti) s = .next
      { s with
        sp := s.sp + 3
        ip := s.mem8 s.sp
        pc := mkWord (s.mem8 (s.sp + 2)) (s.mem8 (s.sp + 1))
        inhibit := true } := by
    have h2 : s.sp + 1 + 1 = s.sp + 2 := BitVec.add_assoc s.sp 1 1
    rw [exec_wrap, runIn_reti, State.mem16, h2]
    rfl
  exact ⟨jumpsTo_of_runIn (runIn_ret p.ctx s),
    fun h => jumpsTo_retF .nz (congrArg not h), fun h => runs_retF .nz (congrArg not h), jumpsTo_retF .z, runs_retF .z,
    fun h => jumpsTo_retF .nc (congrArg not h), fun h => runs_retF .nc (congrArg not h), jumpsTo_retF .c, runs_retF .c,
    fun h => jumpsTo_retF .lz (congrArg not h), fun h => runs_retF .lz (congrArg not h), jumpsTo_retF .lo,
    runs_retF .lo,
    fun h => jumpsTo_retF .p (congrArg not h), fun h => runs_retF .p (congrArg not h), jumpsTo_retF .m, runs_retF .m,
    jumpsTo_of_runIn (runIn_lret p.ctx s), hreti⟩

/-! ## A return after a call -/

section
variable {s t : State}

/-- Under the identity translation a logical address is its own physical address (20_memory.md R47). -/
theorem State.phys_of_identity (h : s.translation = .identity) (a : Word) : s.phys a = a.setWidth 20 := by
  rw [State.phys, h]
  rfl

theorem State.phys_ne_of_identity (h : s.translation = .identity) {a b : Word} (hab : a ≠ b) : s.phys a ≠ s.phys b := by
  rw [State.phys_of_identity h, State.phys_of_identity h]
  bv_omega

/-- Under the identity translation XPC does not move memory. -/
theorem State.mem8_congr_of_identity (hs : s.translation = .identity) (ht : t.translation = .identity)
    (hm : t.mem = s.mem) (a : Word) : t.mem8 a = s.mem8 a := by
  rw [State.mem8, State.mem8, State.phys_of_identity hs, State.phys_of_identity ht, State.physRead_congr hm]

theorem State.mem16_congr_of_identity (hs : s.translation = .identity) (ht : t.translation = .identity)
    (hm : t.mem = s.mem) (a : Word) : t.mem16 a = s.mem16 a := by
  rw [State.mem16, State.mem16, State.mem8_congr_of_identity hs ht hm, State.mem8_congr_of_identity hs ht hm]

end

section
variable (s : State) (c : Ctx)

theorem mem16_sp_runIn_callMn (h : s.phys (s.sp - 1) ≠ s.phys (s.sp - 2)) (mn : Word) :
    (runIn (.callMn mn) c s).mem16 (runIn (.callMn mn) c s).sp = s.pcn c 3 :=
  State.mem16_sp_of_push16 h (by simp) (by simp) (by simp) (by simp) (by simp)

theorem mem16_sp_runIn_rst (h : s.phys (s.sp - 1) ≠ s.phys (s.sp - 2)) (v : Rst) :
    (runIn (.rst v) c s).mem16 (runIn (.rst v) c s).sp = s.pcn c 1 :=
  State.mem16_sp_of_push16 h (by simp) (by simp) (by simp) (by simp) (by simp)

section
variable (hid : s.translation = .identity) (x : Byte) (mn : Word)
include hid

/-- The address that `LCALL` pushed is read back whole: its two bytes are distinct, and XPC does not move them. -/
theorem mem16_sp_runIn_lcall :
    (runIn (.lcall x mn) c s).mem16 (runIn (.lcall x mn) c s).sp = s.pcn c 4 := by
  have hne : (s.push8 s.xpc).sp - 1 ≠ (s.push8 s.xpc).sp - 2 := by bv_omega
  have hpushed := (s.push8 s.xpc).push16_mem16 (s.pcn c 4) (State.phys_ne_of_identity (by simpa using hid) hne)
  rw [← hpushed]
  exact State.mem16_congr_of_identity (by simpa using hid) (by simpa using hid) (by simp) _

/-- The XPC that `LCALL` pushed stands above that address. -/
theorem mem8_xpc_runIn_lcall :
    (runIn (.lcall x mn) c s).mem8 ((runIn (.lcall x mn) c s).sp + 2) = s.xpc := by
  have hsp : (runIn (.lcall x mn) c s).sp + 2 = s.sp - 1 := BitVec.sub_add_cancel (s.sp - 1) 2
  have hhi : s.sp - 1 ≠ (s.push8 s.xpc).sp - 1 := by rw [State.push8_sp]; bv_omega
  have hlo : s.sp - 1 ≠ (s.push8 s.xpc).sp - 2 := by rw [State.push8_sp]; bv_omega
  have hid' : (s.push8 s.xpc).translation = .identity := hid
  rw [hsp]
  calc (runIn (.lcall x mn) c s).mem8 (s.sp - 1)
      = ((s.push8 s.xpc).push16 (s.pcn c 4)).mem8 (s.sp - 1) :=
        State.mem8_congr_of_identity (by simpa using hid) (by simpa using hid) (by simp) _
    _ = (s.push8 s.xpc).mem8 (s.sp - 1) :=
        State.push16_physRead _ _ _ (State.phys_ne_of_identity hid' hhi) (State.phys_ne_of_identity hid' hlo)
    _ = s.xpc := State.mem8_wrMem8_same s (s.sp - 1) s.xpc

end

end

/-- Settles O59: the call leaves the return address, and LCALL above it the old XPC, where the return looks for them. -/
theorem returnUndoesCall : Obligations.ReturnUndoesCall := by
  intro s mn x v
  have hsp : s.sp - 2 + 2 = s.sp := BitVec.sub_add_cancel s.sp 2
  have hsp3 : s.sp - 1 - 2 + 3 = s.sp := by bv_omega
  refine ⟨fun h => ⟨⟨_, _, exec_eq_runIn _ s, rfl, exec_eq_runIn _ _, ?call, hsp, by simp⟩,
    ⟨_, _, exec_eq_runIn _ s, exec_eq_runIn _ _, ?rst, hsp, by simp⟩⟩,
    fun hid => ⟨_, _, exec_eq_runIn _ s, rfl, rfl, exec_eq_runIn _ _, ?lcall, hsp3, ?xpc, by simp⟩⟩
  case call => exact mem16_sp_runIn_callMn s Ctx.bare h mn
  case rst => exact mem16_sp_runIn_rst s Ctx.bare h v
  case lcall => exact mem16_sp_runIn_lcall s Ctx.bare hid x mn
  case xpc => exact mem8_xpc_runIn_lcall s Ctx.bare hid x mn

end Sys2Proof.Machine
end

section
/-!
PROOFS. Block moves (spec/47_prefix_block.md R314 to R319): one step, the repetition of a step, and the whole move by
induction on the number of steps.
-/
namespace Sys2Proof.Machine

/-! ## One step (47_prefix_block.md R314) -/

/-- L/V after a step that finds `bc` in BC; the other flags are kept (log 21). -/
def moveFlags (bc : Word) : FlagUpd := { lv := some (isZero (bc - 1)) }

section
variable (s : State) (c : Ctx) (dir : Dir)

theorem State.moveStep_eq :
    s.moveStep c dir =
      { s.wrD8 c s.de (s.mem8 s.hl) with
        main := { ((s.main.setBC (s.bc - 1)).setDE (dir.next s.de)).setHL (dir.next s.hl) with
          f := (moveFlags s.bc).apply s.main.f } } := by
  rcases s.wrD8_cases c s.de (s.mem8 s.hl) with ⟨-, e⟩ | ⟨_, -, e⟩ <;> rw [State.moveStep, e] <;> rfl

@[simp] theorem State.moveStep_bc : (s.moveStep c dir).bc = s.bc - 1 := by
  rw [State.moveStep_eq]
  exact mkWord_hi_lo _

@[simp] theorem State.moveStep_de : (s.moveStep c dir).de = dir.next s.de := by
  rw [State.moveStep_eq]
  exact mkWord_hi_lo _

@[simp] theorem State.moveStep_hl : (s.moveStep c dir).hl = dir.next s.hl := by
  rw [State.moveStep_eq]
  exact mkWord_hi_lo _

@[simp] theorem State.moveStep_ioWrites : (s.moveStep c dir).ioWrites = (s.wrD8 c s.de (s.mem8 s.hl)).ioWrites := by
  rw [State.moveStep_eq]

/-- L/V after a step says whether BC has become 0. -/
theorem State.moveStep_flagLV : flagLV (s.moveStep c dir).main.f = decide ((s.moveStep c dir).bc = 0) := by
  rw [State.moveStep_bc, State.moveStep_eq]
  exact flagLV_apply (moveFlags s.bc) s.main.f

end

/-- Settles O51: both rows are one step; its flag update writes L/V alone. -/
theorem blockMoveStep : Obligations.BlockMoveStep := by
  intro p s
  have hlv : isZero (s.bc - 1) = decide (s.bc = 1) := decide_eq_decide.mpr sub_eq_zero
  refine ⟨(moveFlags s.bc).apply s.main.f, ?flags, ?ldi, ?ldd⟩
  case flags => exact hlv ▸ flagsAre_apply (moveFlags s.bc) s.main.f
  case ldi => exact State.moveStep_eq s p.ctx .up ▸ runs_of_advance (runIn_ldi p.ctx s) (s.moveStep_pc p.ctx .up)
  case ldd => exact State.moveStep_eq s p.ctx .down ▸ runs_of_advance (runIn_ldd p.ctx s) (s.moveStep_pc p.ctx .down)

/-! ## A step that repeats (47_prefix_block.md R315) -/

section
variable (s : State) (c : Ctx) (n : Nat)

theorem State.repeatOrAdvance_pc :
    (s.repeatOrAdvance c n).pc = if s.bc = 0 then s.pc + BitVec.ofNat 16 (c.plen + n) else s.pc := by
  unfold State.repeatOrAdvance
  split <;> rfl

@[simp] theorem State.repeatOrAdvance_bc : (s.repeatOrAdvance c n).bc = s.bc :=
  congrArg Bank.bc (s.repeatOrAdvance_main c n)

@[simp] theorem State.repeatOrAdvance_de : (s.repeatOrAdvance c n).de = s.de :=
  congrArg Bank.de (s.repeatOrAdvance_main c n)

@[simp] theorem State.repeatOrAdvance_hl : (s.repeatOrAdvance c n).hl = s.hl :=
  congrArg Bank.hl (s.repeatOrAdvance_main c n)

/-- Repeating and advancing differ in PC only. -/
theorem State.repeatOrAdvance_eq_advance :
    s.repeatOrAdvance c n = { s.advance c n with pc := if s.bc = 0 then (s.advance c n).pc else s.pc } := by
  unfold State.repeatOrAdvance
  split <;> rfl

end

/-- LDIR and LDDR end as LDI and LDD do, but for PC. -/
theorem repeatOrAdvance_moveStep (s : State) (c : Ctx) (dir : Dir) (n : Nat) :
    (s.moveStep c dir).repeatOrAdvance c n =
      { (s.moveStep c dir).advance c n with
        pc := if s.bc = 1 then ((s.moveStep c dir).advance c n).pc else s.pc } := by
  rw [State.repeatOrAdvance_eq_advance, State.moveStep_bc, State.moveStep_pc]
  simp only [sub_eq_zero]

/-- Settles O52: a repeating row is the step of LDI or LDD, and its PC by the BC of that step. -/
theorem repeatingMoveStepsOrEnds : Obligations.RepeatingMoveStepsOrEnds := by
  intro p s
  refine ⟨_, _, exec_wrap p .ldi s, exec_wrap p .ldd s, ?ldir, ?lddr, rfl, rfl⟩
  case ldir => rw [exec_wrap, runIn_ldir, repeatOrAdvance_moveStep, runIn_ldi]
  case lddr => rw [exec_wrap, runIn_lddr, repeatOrAdvance_moveStep, runIn_ldd]

/-! ## The whole move -/

/-- An instruction behind its prefixes, run `n` times. -/
theorem execTimes_wrap (p : Pfx) (i : Instr) (n : Nat) (s : State) :
    execTimes (p.wrap i) n s = some ((runIn i p.ctx)^[n] s) := by
  induction n generalizing s with
  | zero => rfl
  | succ n ih =>
    rw [execTimes, exec_wrap]
    exact ih _

/-- The repeating row of each direction. -/
def Dir.repeatRow : Dir → Instr
  | .up => .ldir
  | .down => .lddr

/-- The address `n` steps after `a` (47_prefix_block.md R314). -/
def Dir.after (dir : Dir) (a : Word) (n : Nat) : Word :=
  match dir with
  | .up => a + BitVec.ofNat 16 n
  | .down => a - BitVec.ofNat 16 n

/-- The state after `n` executions of the repeating row. -/
def State.moves (s : State) (c : Ctx) (dir : Dir) (n : Nat) : State := (runIn dir.repeatRow c)^[n] s

theorem Dir.after_zero (dir : Dir) (a : Word) : dir.after a 0 = a := by
  cases dir
  · exact BitVec.add_zero a
  · exact BitVec.sub_zero a

theorem Dir.after_succ (dir : Dir) (a : Word) (n : Nat) : dir.after a (n + 1) = dir.next (dir.after a n) := by
  cases dir <;> simp only [Dir.after, Dir.next, BitVec.ofNat_add] <;> bv_omega

section
variable (s : State) (c : Ctx) (dir : Dir) (n : Nat)

@[simp] theorem State.moves_zero : s.moves c dir 0 = s := rfl

theorem State.moves_succ :
    s.moves c dir (n + 1) = ((s.moves c dir n).moveStep c dir).repeatOrAdvance c 2 := by
  rw [State.moves, Function.iterate_succ_apply']
  cases dir <;> rfl

/-- Every execution takes 1 from BC, also where BC was 0. -/
theorem State.moves_bc : (s.moves c dir n).bc = s.bc - BitVec.ofNat 16 n := by
  induction n with
  | zero => exact (BitVec.sub_zero _).symm
  | succ n ih =>
    rw [State.moves_succ, State.repeatOrAdvance_bc, State.moveStep_bc, ih, BitVec.ofNat_add]
    exact BitVec.sub_sub _ _ _

theorem State.moves_de : (s.moves c dir n).de = dir.after s.de n := by
  induction n with
  | zero => exact (dir.after_zero _).symm
  | succ n ih => rw [State.moves_succ, State.repeatOrAdvance_de, State.moveStep_de, ih, Dir.after_succ]

theorem State.moves_hl : (s.moves c dir n).hl = dir.after s.hl n := by
  induction n with
  | zero => exact (dir.after_zero _).symm
  | succ n ih => rw [State.moves_succ, State.repeatOrAdvance_hl, State.moveStep_hl, ih, Dir.after_succ]

theorem State.moves_succ_pc :
    (s.moves c dir (n + 1)).pc =
      if (s.moves c dir (n + 1)).bc = 0 then (s.moves c dir n).pc + BitVec.ofNat 16 (c.plen + 2)
      else (s.moves c dir n).pc := by
  rw [State.moves_succ, State.repeatOrAdvance_pc, State.repeatOrAdvance_bc, State.moveStep_pc]

theorem State.moves_succ_flagLV :
    flagLV (s.moves c dir (n + 1)).main.f = decide ((s.moves c dir (n + 1)).bc = 0) := by
  rw [State.moves_succ, State.repeatOrAdvance_main, State.moveStep_flagLV, State.repeatOrAdvance_bc]

end

/-! ## The length of a move (47_prefix_block.md R315) -/

theorem moveCount_pos (bc : Word) : 0 < moveCount bc := by
  unfold moveCount
  split
  · omega
  · bv_omega

/-- Up to the length of the move, BC is 0 after the last step only. -/
theorem sub_ofNat_eq_zero_iff (bc : Word) {n : Nat} (hpos : 0 < n) (hn : n ≤ moveCount bc) :
    bc - BitVec.ofNat 16 n = 0 ↔ n = moveCount bc := by
  rw [sub_eq_zero, ← BitVec.toNat_inj, BitVec.toNat_ofNat]
  unfold moveCount at hn ⊢
  split at hn
  · next h =>
    have hzero : bc.toNat = 0 := congrArg BitVec.toNat h
    rw [if_pos h, hzero]
    omega
  · next h =>
    rw [if_neg h, Nat.mod_eq_of_lt (hn.trans_lt bc.isLt)]
    exact eq_comm

section
variable {s : State} {n : Nat} (c : Ctx) (dir : Dir)

theorem State.moves_bc_eq_zero_iff (hpos : 0 < n) (hn : n ≤ moveCount s.bc) :
    (s.moves c dir n).bc = 0 ↔ n = moveCount s.bc := by
  rw [State.moves_bc, sub_ofNat_eq_zero_iff s.bc hpos hn]

/-- PC stays at the first byte until the last step moves it past the instruction. -/
theorem State.moves_pc (hn : n ≤ moveCount s.bc) :
    (s.moves c dir n).pc = if n = moveCount s.bc then s.pc + BitVec.ofNat 16 (c.plen + 2) else s.pc := by
  induction n with
  | zero => rw [if_neg (moveCount_pos s.bc).ne, State.moves_zero]
  | succ n ih =>
    rw [State.moves_succ_pc, ih (by omega), if_neg (show n ≠ moveCount s.bc by omega)]
    simp only [State.moves_bc_eq_zero_iff c dir n.succ_pos hn]

theorem State.moves_flagLV (hpos : 0 < n) (hn : n ≤ moveCount s.bc) :
    flagLV (s.moves c dir n).main.f = decide (n = moveCount s.bc) := by
  obtain ⟨m, rfl⟩ := Nat.exists_eq_succ_of_ne_zero hpos.ne'
  rw [State.moves_succ_flagLV, decide_eq_decide]
  exact State.moves_bc_eq_zero_iff c dir hpos hn

end

/-- Settles O53: in both directions BC counts the steps, and it is 0 after the last one only. -/
theorem repeatingMoveRunsBcSteps : Obligations.RepeatingMoveRunsBcSteps := by
  intro p s n hpos hn
  refine ⟨s.moves p.ctx .up n, s.moves p.ctx .down n, execTimes_wrap p .ldir n s, execTimes_wrap p .lddr n s,
    s.moves_bc _ _ n, s.moves_de _ _ n, s.moves_hl _ _ n, s.moves_bc _ _ n, s.moves_de _ _ n, s.moves_hl _ _ n,
    State.moves_pc _ _ hn, ?samePc, State.moves_flagLV _ _ hpos hn, State.moves_flagLV _ _ hpos hn,
    fun h => ⟨?up, ?down⟩⟩
  case samePc => rw [State.moves_pc _ _ hn, State.moves_pc _ _ hn]
  case up | down => exact (State.moves_bc_eq_zero_iff _ _ hpos hn).mpr h

/-! ## A move to the external I/O space (20_memory.md R48) -/

/-- An external I/O write is not seen by the translation, which depends on the internal ones (20_memory.md R47). -/
theorem State.mem8_logIo_ext (s : State) (a b : Word) (v : Byte) :
    (s.logIo { space := .ext, addr := b, val := v }).mem8 a = s.mem8 a := by
  have hint : internalWrites (s.logIo { space := .ext, addr := b, val := v }).ioWrites = internalWrites s.ioWrites := by
    simp [internalWrites]
  rw [State.mem8, State.phys, hint]
  rfl

section
variable (s : State) {c : Ctx} (hio : c.io = some .ext) (dir : Dir) (n : Nat)
include hio

theorem State.wrD8_of_io_ext (a : Word) (v : Byte) :
    s.wrD8 c a v = s.logIo { space := .ext, addr := a, val := v } := by
  rw [State.wrD8, hio]

theorem State.moves_mem_of_io_ext : (s.moves c dir n).mem = s.mem := by
  induction n with
  | zero => rfl
  | succ n ih =>
    rw [State.moves_succ, State.repeatOrAdvance_mem, State.moveStep_mem, State.wrD8_mem_io _ _ _ _ _ hio, ih]

/-- Every step of such a move reads memory as it was before the first. -/
theorem State.moves_mem8_of_io_ext (a : Word) : (s.moves c dir n).mem8 a = s.mem8 a := by
  induction n with
  | zero => rfl
  | succ n ih =>
    calc (s.moves c dir (n + 1)).mem8 a
        = ((s.moves c dir n).wrD8 c (s.moves c dir n).de ((s.moves c dir n).mem8 (s.moves c dir n).hl)).mem8 a := by
          rw [State.moves_succ]
          exact State.mem8_congr (by simp) (by simp) (by simp) (by simp) a
      _ = (s.moves c dir n).mem8 a := by rw [State.wrD8_of_io_ext _ hio, State.mem8_logIo_ext]
      _ = s.mem8 a := ih

theorem State.moves_ioWrites_of_io_ext :
    (s.moves c dir n).ioWrites = s.ioWrites ++ (List.range n).map fun k =>
      { space := .ext, addr := dir.after s.de k, val := s.mem8 (dir.after s.hl k) } := by
  induction n with
  | zero => exact (List.append_nil _).symm
  | succ n ih =>
    rw [State.moves_succ, State.repeatOrAdvance_ioWrites, State.moveStep_ioWrites, State.wrD8_of_io_ext _ hio,
      State.logIo_ioWrites, ih, State.moves_de, State.moves_hl, State.moves_mem8_of_io_ext s hio, List.range_succ,
      List.map_append, List.append_assoc]
    rfl

end

/-- Settles O54: no step changes memory or what the translation depends on, so each event has the byte of the source as
it was. -/
theorem repeatingMoveWritesTheSourceToExternalIo : Obligations.RepeatingMoveWritesTheSourceToExternalIo := by
  intro s n _
  exact ⟨s.moves Pfx.ioe.ctx .up n, execTimes_wrap .ioe .ldir n s, s.moves_mem_of_io_ext rfl .up n,
    s.moves_ioWrites_of_io_ext rfl .up n⟩

end Sys2Proof.Machine
end
